-- ==== Sys2Proof/Word.lean ====
section
/-! DEFINITION. The byte and word types of the lines.
Nothing here carries a rule of the spec; byte order and check values stand in Machine/Operands.lean
and Machine/Crc.lean. -/

namespace Sys2Proof

/-- One byte of a frame (spec 10, R180). -/
abbrev Byte := BitVec 8

/-- A two-byte field or a CRC register (spec 10, R182). -/
abbrev Word := BitVec 16

/-- A three-byte field: an operator code on a line (spec 10, section 10.7, step 5). -/
abbrev Code24 := BitVec 24

end Sys2Proof
end

