-- ==== Sys2Proof/Machine/Types.lean ====
section
/-! DEFINITION. The named values and records of the manual: ports, networks, table entries, plan steps,
the campaign context, port contexts, messages. Plain data only; what the coordinator does with them
stands in the other files of Machine/. -/

namespace Sys2Proof

/-! ## Ports and indexes -/

/-- The four module connections (00, Terms: port). -/
inductive Port where
  | p0 | p1 | p2 | p3
  deriving DecidableEq, Repr

/-- One value for each of P0 to P3 (or C0 to C3, 08 section 8.1). -/
structure PerPort (α : Type) where
  p0 : α
  p1 : α
  p2 : α
  p3 : α
  deriving DecidableEq, Repr

/-- A Network Table slot, 0 to 23 (01 section 1.1). -/
abbrev TableSlot := Fin 24

/-- A plan slot, 0 to 63 (02 section 2.1). -/
abbrev PlanSlot := Fin 64

/-- A destination number, 0 to 7 (02 R46). -/
abbrev DestNumber := Fin 8

/-- The rate strap (10 R180). -/
inductive LineRate where
  | baud19200 | baud115200
  deriving DecidableEq, Repr

/-- What the straps present: the fitted mask and the host line rate (11 R199). -/
structure Straps where
  fitted : PerPort Bool
  rate : LineRate
  deriving DecidableEq, Repr

end Sys2Proof

namespace Sys2Proof.Machine

/-! ## Networks and the Network Table (01) -/

/-- Access class of a network (01 section 1.1). -/
inductive AccessClass where
  | legacy | wide | packet
  deriving DecidableEq, Repr

/-- A set of classes: a class filter (02 section 2.1). -/
structure ClassSet where
  legacy : Bool
  wide : Bool
  packet : Bool
  deriving DecidableEq, Repr

/-- Operator code and class: with a port, an entry's identity (01 section 1.1). -/
structure NetworkId where
  operator : Nat
  cls : AccessClass
  deriving DecidableEq, Repr

/-- An operator's weight (01 section 1.5). -/
inductive Preference where
  | bar
  | weight (n : Fin 4)
  deriving DecidableEq, Repr

/-- One record of the preference list (01 R15). -/
structure PreferenceRecord where
  operator : Nat
  preference : Preference
  deriving DecidableEq, Repr

/-- The kinds of hold (01 section 1.6). -/
inductive HoldKind where
  | attempt | call | standby | callback
  deriving DecidableEq, Repr

/-- A set of holds (01 R17): TRY, CALL, STANDBY, CALLBACK. -/
structure Holds where
  attempt : Bool
  call : Bool
  standby : Bool
  callback : Bool
  deriving DecidableEq, Repr

/-- The states of a slot that holds an entry (01 section 1.2); FREE is an absent entry. -/
inductive EntryState where
  | seen | lost
  deriving DecidableEq, Repr

/-- One network as seen on one port (01 section 1.1). -/
structure Entry where
  state : EntryState
  port : Port
  net : NetworkId
  /-- quarter-dBm -/
  level : Int
  /-- quarter-dB -/
  quality : Int
  samples : Nat
  age : Nat
  failures : Nat
  preference : Preference
  score : Nat
  holds : Holds
  lastCause : Option Byte
  deriving DecidableEq, Repr

/-- The Network Table: 24 slots, FREE where `none` (01 R1, R2). `agedDue` is the model's own: the slots
whose ENTRY_AGED of this tick is still to be taken (log 2). -/
structure NetTable where
  slots : Vector (Option Entry) 24
  agedDue : List TableSlot
  deriving DecidableEq, Repr

/-- One network of a SCAN_RESULT after R144's reading and R7's clamping. -/
structure Sample where
  net : NetworkId
  /-- dBm -/
  level : Int
  /-- dB; absent for 127 -/
  quality : Option Int
  deriving DecidableEq, Repr

/-! ## The dial plan (02) -/

/-- The four TEST conditions; only NO_CANDIDATE uses the class filter (02 section 2.1). -/
inductive Condition where
  | noCandidate (filter : ClassSet)
  | supplyLow
  | afterLoss
  | pressed
  deriving DecidableEq, Repr

/-- A step record in its stored form (02 R27): a field the action does not use has no place here and
reads as zero. -/
inductive PlanStep where
  | dial (destination : DestNumber) (filter : ClassSet) (tries : Nat) (more : Bool)
  | wait (seconds : Nat) (more : Bool)
  | resurvey (more : Bool)
  | test (condition : Condition)
  | goto (target : PlanSlot)
  | invoke (target : PlanSlot)
  | ret
  deriving DecidableEq, Repr

/-- One directory record (02 section 2.5). -/
structure Destination where
  digits : List Byte
  dataFlag : Bool
  deriving DecidableEq, Repr

/-- Box identity and location text (02 section 2.5). -/
structure BoxRecord where
  identity : List Byte
  location : List Byte
  deriving DecidableEq, Repr

/-- The kinds of plan fault (02 R45). -/
inductive PlanFaultKind where
  | loop | stackFull
  deriving DecidableEq, Repr

/-- A plan fault as noted for the summary (02 R45). -/
structure PlanFault where
  kind : PlanFaultKind
  slot : PlanSlot
  deriving DecidableEq, Repr

/-! ## The campaign (03, 04) -/

/-- Campaign states (03 R54). -/
inductive CampaignState where
  | idle | prepare | dial | ring | talk | pause | resurvey | release | callback
  deriving DecidableEq, Repr

/-- Campaign phases (03 section 3.1). -/
inductive Phase where
  | plan | recovery | lastResort
  deriving DecidableEq, Repr

/-- Campaign origins (03 section 3.1). -/
inductive CampaignOrigin where
  | button | host | incoming
  deriving DecidableEq, Repr

/-- Campaign outcomes (03 R82). -/
inductive CampaignOutcome where
  | completed | cancelled | failed
  deriving DecidableEq, Repr

/-- Try origins (03 section 3.1). -/
inductive TryOrigin where
  | plan | recovery | lastResort | callback | incoming
  deriving DecidableEq, Repr

/-- Try stages (03 section 3.1). -/
inductive TryStage where
  | selecting | preparing | dialing | ringing | answering | connected | releasing
  deriving DecidableEq, Repr

/-- Release reasons; an END_CALL release keeps whether it began in TALK, which R64 and R65 ask. -/
inductive ReleaseReason where
  | ringTimeout
  | endCall (inTalk : Bool)
  deriving DecidableEq, Repr

/-- The try's data outcome (03 R70). -/
inductive DataOutcome where
  | pending | sent | failed
  deriving DecidableEq, Repr

/-- Outcomes of attempt records (05 section 5.2). -/
inductive TryOutcome where
  | cleared | endedByBox | dropped | attachFailed | rejected | busy | noAnswer | portFailed | aborted
  | emptyDestination | noCandidate
  deriving DecidableEq, Repr

/-- The current try (03 section 3.1). `id` and `net` are the model's own (logs 19, 15). -/
structure CurrentTry where
  id : Nat
  origin : TryOrigin
  number : Option Nat
  slot : Option PlanSlot
  destination : Option DestNumber
  digits : List Byte
  dataFlag : Bool
  entry : Option TableSlot
  net : Option NetworkId
  port : Option Port
  score : Option Nat
  stage : TryStage
  release : Option ReleaseReason
  talk : Option Nat
  data : Option DataOutcome
  cause : Option Byte
  deriving DecidableEq, Repr

/-- The current DIAL step (02 R32), with the destination and class filter read at its start. -/
structure DialStep where
  slot : PlanSlot
  destination : DestNumber
  filter : ClassSet
  triesLeft : Nat
  excluded : List TableSlot
  resurveyed : Bool
  deriving DecidableEq, Repr

/-- Standby status (04 section 4.1). -/
inductive StandbyStatus where
  | preparing | ready
  deriving DecidableEq, Repr

/-- The standby record (04 R84); `id` is the model's own (log 19). -/
structure Standby where
  id : Nat
  entry : TableSlot
  port : Port
  status : StandbyStatus
  deriving DecidableEq, Repr

/-- Reasons a standby is cleared (04 R87). -/
inductive StandbyReason where
  | portLost | entryLost | attachFailed | portCall | supply | disabled | callEnded
  deriving DecidableEq, Repr

/-- The recovery record (04 section 4.2). `lostNet` is absent only where the lost try had no entry. -/
structure Recovery where
  destination : DestNumber
  lostPort : Option Port
  lostNet : Option NetworkId
  /-- `true`: LAST_RESORT; `false`: PLAN -/
  toLastResort : Bool
  deriving DecidableEq, Repr

/-- The last-resort record (04 section 4.3); `secondPass` is pass 2. -/
structure LastResort where
  secondPass : Bool
  list : List TableSlot
  position : Nat
  deriving DecidableEq, Repr

/-- What made a resurvey (04 section 4.4). -/
inductive ResurveyUse where
  | step | noCandidate | lastResort
  deriving DecidableEq, Repr

/-- The resurvey record (04 R101); `id` is the model's own (log 19). -/
structure Resurvey where
  id : Nat
  use : ResurveyUse
  awaited : PerPort Bool
  deriving DecidableEq, Repr

/-- The campaign context, the standby record and the audio route (03 R53, R81; 04). `resurveysDone` is the
model's own: the resurveys this campaign has completed, each of which is reported (04 R103; log 20). -/
structure Campaign where
  state : CampaignState
  phase : Option Phase
  origin : Option CampaignOrigin
  cursor : Option PlanSlot
  stack : List PlanSlot
  controlCount : Nat
  dialStep : Option DialStep
  afterLoss : Bool
  attempt : Option CurrentTry
  callEntry : Option TableSlot
  callPort : Option Port
  ringTimer : Option Nat
  waitTimer : Option Nat
  recoveries : Nat
  standby : Option Standby
  recovery : Option Recovery
  lastResort : Option LastResort
  resurvey : Option Resurvey
  resurveysDone : Nat
  windowTimer : Option Nat
  callbackPort : Option Port
  presses : Nat
  cancelPending : Bool
  planFault : Option PlanFault
  seconds : Nat
  outcome : Option CampaignOutcome
  route : Option Port
  deriving DecidableEq, Repr

/-! ## The attempt log (05) -/

/-- An attempt record (05 section 5.2). -/
structure AttemptRecord where
  number : Nat
  origin : TryOrigin
  slot : Option PlanSlot
  destination : Option DestNumber
  port : Option Port
  net : Option NetworkId
  score : Option Nat
  outcome : TryOutcome
  cause : Option Byte
  talk : Option Nat
  data : Option DataOutcome
  deriving DecidableEq, Repr

/-- The campaign summary (05 section 5.4). -/
structure Summary where
  origin : Option CampaignOrigin
  outcome : CampaignOutcome
  total : Nat
  recoveries : Nat
  planFault : Option PlanFault
  seconds : Nat
  presses : Nat
  truncated : Bool
  deriving DecidableEq, Repr

/-- The Attempt Log (05 section 5.1). -/
structure AttemptLog where
  records : List AttemptRecord
  truncated : Bool
  counter : Nat
  summary : Option Summary
  deriving DecidableEq, Repr

/-! ## Radio ports (06, 07) -/

/-- Power states (06 section 6.2). -/
inductive Power where
  | disabled | off | waking | on | sleeping | fault | dead
  deriving DecidableEq, Repr

/-- Attachments (06 section 6.1); ATTACHING names the table slot and keeps the ATTACH's operands (R121). -/
inductive Attachment where
  | none
  | attaching (entry : TableSlot) (net : NetworkId)
  | attached (net : NetworkId)
  | detaching
  deriving DecidableEq, Repr

/-- Call states (06 section 6.1). -/
inductive CallState where
  | none | dialing | alerting | connected | offered | answering | clearing
  deriving DecidableEq, Repr

/-- Why a WAKE is sent (06 section 6.1). -/
inductive WakeReason where
  | demand | policy | restart
  deriving DecidableEq, Repr

/-- The data message (03 R69, 07 R142). -/
structure DataMessage where
  identity : List Byte
  location : List Byte
  battery : Nat
  number : Nat
  recoveries : Nat
  deriving DecidableEq, Repr

/-- The ten orders with their operands (07 section 7.2). -/
inductive OrderKind where
  | wake (reason : WakeReason)
  | sleep
  | scan
  | attach (entry : TableSlot) (net : NetworkId)
  | detach
  | dial (digits : List Byte)
  | answer
  | hangup
  | refuse
  | sendData (message : DataMessage)
  deriving DecidableEq, Repr

/-- The campaign's purposes (06 section 6.1), each naming what it serves by the model's own id (log 19). -/
inductive Purpose where
  | attempt (id : Nat)
  | standby (id : Nat)
  | call (id : Nat)
  /-- the offered call a REFUSE releases -/
  | offered
  | resurvey (id : Nat)
  deriving DecidableEq, Repr

/-- An order's submitter (06 section 6.1); a SCAN of the Survey Timer carries its tag (08 R156). -/
inductive Submitter where
  | campaign (purpose : Purpose)
  | survey (tag : Nat)
  | host
  | start
  | port
  deriving DecidableEq, Repr

/-- An order with its submitter. -/
structure Order where
  kind : OrderKind
  submitter : Submitter
  deriving DecidableEq, Repr

/-- The order in flight with its timeout timer (06 section 6.1). -/
structure InFlight where
  order : Order
  timer : Nat
  deriving DecidableEq, Repr

/-- The attention set (06 R139). -/
structure Attention where
  moduleFault : Bool
  registrationLost : Bool
  incoming : Bool
  restarted : Bool
  deriving DecidableEq, Repr

/-- A line's receiver (10 R181): hunting, or collecting with the bytes since the start byte. -/
inductive Receiver where
  | hunting
  | collecting (bytes : List Byte)
  deriving DecidableEq, Repr

/-- The port context (06 section 6.1), less enable and policy, which are in the configuration, and with
the module line's receiver (07 R141). `tickDue` is the model's own (log 2). -/
structure PortContext where
  power : Power
  attachment : Attachment
  call : CallState
  inFlight : Option InFlight
  queue : List Order
  attention : Attention
  restartCount : Nat
  restartTimer : Option Nat
  silenceTimer : Option Nat
  rx : Receiver
  tickDue : Bool
  deriving DecidableEq, Repr

/-- Call-end causes (07 section 7.5). -/
inductive EndCause where
  | farClear | netDrop | rejected | busy | noAnswer | localClear
  deriving DecidableEq, Repr

/-- Why a port entered FAULT or DEAD (06 R129). -/
inductive FaultCause where
  | timeout | silent | moduleFault
  deriving DecidableEq, Repr

/-- A port's answer to a submission (06 R116). -/
inductive SubmitAnswer where
  | accepted | unavailable | queueFull
  deriving DecidableEq, Repr

/-! ## Survey Timer, Supply Monitor (08, 09) -/

/-- Power policies (06 section 6.1). -/
inductive Policy where
  | keepWarm | onDemand
  deriving DecidableEq, Repr

/-- Why a match was skipped (08 R156). -/
inductive SkipReason where
  | disabled | unavailable | supply | campaign | queueFull
  deriving DecidableEq, Repr

/-- Match records (08 section 8.1). -/
inductive MatchRecord where
  | none | submitted | completed | dropped
  | skipped (reason : SkipReason)
  deriving DecidableEq, Repr

/-- The Survey Timer (08 section 8.1), less the period and the buffered compares, which are in the
configuration. `periodEndDue` and `matchDue` are the model's own (log 2). -/
structure Survey where
  counter : Nat
  inForce : PerPort Nat
  holdHost : Bool
  holdHalt : Bool
  periodEnds : Nat
  records : PerPort MatchRecord
  periodEndDue : Bool
  matchDue : PerPort Bool
  deriving DecidableEq, Repr

/-- Supply modes, in rising order of severity (09). -/
inductive SupplyMode where
  | normal | low | shed | cutoff
  deriving DecidableEq, Repr

/-- The Supply Monitor (09 section 9.1), less the thresholds. `idleNotices` counts the notices of R175
on their way. -/
structure Supply where
  last : Option Nat
  mode : SupplyMode
  halt : Bool
  converting : Bool
  interval : Nat
  idleNotices : Nat
  deriving DecidableEq, Repr

/-- The supply thresholds in millivolts (09 R169). -/
structure Thresholds where
  warn : Nat
  shed : Nat
  cutoff : Nat
  deriving DecidableEq, Repr

/-! ## The working configuration (11 R195) -/

/-- The seven tuning values (10 R189). -/
structure Tuning where
  floor : Nat
  ringTimeout : Nat
  callbackWindow : Nat
  recoveryLimit : Nat
  standbyEnable : Bool
  answerInIdle : Bool
  entrySlot : PlanSlot
  deriving DecidableEq, Repr

/-- A set of report classes: the report mask or the pending set (10 R190). -/
structure ReportSet where
  campaign : Bool
  network : Bool
  port : Bool
  supply : Bool
  survey : Bool
  press : Bool
  deriving DecidableEq, Repr

/-- The working configuration, one image (11 R195). -/
structure WorkingConfig where
  tuning : Tuning
  thresholds : Thresholds
  period : Nat
  compares : PerPort Nat
  policies : PerPort Policy
  enables : PerPort Bool
  steps : Vector PlanStep 64
  directory : Vector Destination 8
  box : BoxRecord
  preferences : List PreferenceRecord
  mask : ReportSet
  deriving DecidableEq, Repr

/-- The Configuration Store (11 section 11.2): the copy, its mark and CRC, and the snapshot of a
COMMIT_CONFIG in progress. -/
structure Store where
  mark : Bool
  image : WorkingConfig
  crc : Word
  writing : Option WorkingConfig
  deriving DecidableEq, Repr

/-! ## Messages of the host line (10) -/

/-- A good frame's TYPE and PAYLOAD (10 R180). -/
structure Frame where
  type : Byte
  payload : List Byte
  deriving DecidableEq, Repr

/-- Reply codes (10 R187). -/
inductive ReplyCode where
  | ok | busy | badArgument | unknown | notActive | power | storeFailed
  deriving DecidableEq, Repr

/-- Reset kinds (11 R198). -/
inductive ResetKind where
  | powerOn | pin | link | supply
  deriving DecidableEq, Repr

/-- Report classes (10 R190). -/
inductive ReportClass where
  | campaign | network | port | supply | survey | press
  deriving DecidableEq, Repr

/-- Why an entry was freed (01 R26). -/
inductive FreeCause where
  | aged | evicted
  deriving DecidableEq, Repr

/-- Conditions an ATTENTION report names (06 R140). -/
inductive AttentionCondition where
  | registrationLost
  /-- with whether caller digits were given -/
  | incoming (digits : Bool)
  deriving DecidableEq, Repr

/-- The kinds of PORT report (06 R140). -/
inductive PortReportKind where
  | fault (cause : FaultCause)
  | dead (cause : FaultCause)
  | restarted
  | attention (condition : AttentionCondition)
  | sleepUnanswered
  | disabled
  | enabled
  deriving DecidableEq, Repr

/-- The reports with what each carries (10 section 10.5 and the rules it names). -/
inductive Report where
  /-- 11 R200; the revision number is added by the layout -/
  | start (kind : ResetKind) (storeDefaults : Bool) (fitted : PerPort Bool) (rate : LineRate)
  /-- 03 R58, R76 -/
  | started (origin : CampaignOrigin)
  /-- 03 R54; the outcome at the end of a campaign, R82 -/
  | state (state : CampaignState) (phase : Option Phase) (origin : Option CampaignOrigin)
      (number : Option Nat) (route : Option Port) (outcome : Option CampaignOutcome)
  /-- 04 R84; the status and no reason, or CLEARED with its reason -/
  | standby (status : Option StandbyStatus) (entry : TableSlot) (port : Port)
      (reason : Option StandbyReason)
  /-- 03 R75 -/
  | incoming (port : Port) (digits : Option (List Byte)) (answered : Bool)
  /-- 05 R107 -/
  | attempt (record : AttemptRecord) (held : Nat) (truncated : Bool)
  /-- 05 R111 -/
  | summary (summary : Summary)
  /-- 01 R26 -/
  | netAdded (slot : TableSlot) (port : Port) (net : NetworkId)
  | netReturned (slot : TableSlot)
  | netLost (slot : TableSlot)
  | netFreed (slot : TableSlot) (cause : FreeCause)
  | netTableFull (port : Port) (net : NetworkId)
  | netCleared (freed : Nat)
  /-- 06 R140 -/
  | port (kind : PortReportKind) (port : Port) (power : Power) (attention : Attention)
      (restartCount : Nat)
  /-- 09 R172 -/
  | supplyMode (before after : SupplyMode) (last : Option Nat)
  /-- 09 R176 -/
  | supplyHalt (last : Option Nat) (restartLevel : Nat)
  /-- 08 R158 -/
  | periodEnd (count period : Nat) (inForce : PerPort Nat) (records : PerPort MatchRecord)
  /-- 03 R56 -/
  | press (count : Nat) (state : CampaignState) (active : Bool)
  deriving DecidableEq, Repr

/-- What STATUS shows of one port (10 R188). -/
structure PortView where
  fitted : Bool
  power : Power
  attachment : Attachment
  call : CallState
  attention : Attention
  restartCount : Nat
  deriving DecidableEq, Repr

/-- What STATUS returns (10 R188). -/
structure StatusView where
  state : CampaignState
  phase : Option Phase
  origin : Option CampaignOrigin
  number : Option Nat
  recoveries : Nat
  presses : Nat
  route : Option Port
  standby : Option (TableSlot × Port × StandbyStatus)
  callbackPort : Option Port
  mode : SupplyMode
  halt : Bool
  last : Option Nat
  converting : Bool
  ports : PerPort PortView
  pendingSet : ReportSet
  mask : ReportSet
  deriving DecidableEq, Repr

/-- A reply's contents, as the owner's rule gives (10 section 10.4). -/
inductive Contents where
  | none
  /-- R188 -/
  | status (view : StatusView)
  /-- R189 -/
  | tuning (values : Tuning)
  /-- 09 R169 -/
  | supply (thresholds : Thresholds) (mode : SupplyMode) (halt : Bool) (last : Option Nat)
      (converting : Bool)
  /-- 08 R159 -/
  | survey (period : Nat) (buffered inForce : PerPort Nat) (policies : PerPort Policy) (counter : Nat)
      (holdHost holdHalt : Bool) (periodEnds : Nat)
  /-- 08 R162 -/
  | hold (holdHost holdHalt : Bool) (counter period : Nat) (inForce : PerPort Nat) (periodEnds : Nat)
  /-- 08 R165 -/
  | surveyNow (accepted : PerPort Bool) (refused : List (Port × SubmitAnswer))
  /-- 02 R48 -/
  | textKept (identity location : Nat)
  /-- 01 R26, by slot -/
  | slots (entries : List (TableSlot × Option Entry))
  /-- 01 R26, ranked: slot, position, entry -/
  | ranked (entries : List (TableSlot × Nat × Entry))
  /-- 02 R52 -/
  | planSteps (steps : List (PlanSlot × PlanStep)) (entrySlot : PlanSlot)
  | planDestination (destination : Destination) (entrySlot : PlanSlot)
  | planBox (box : BoxRecord) (entrySlot : PlanSlot)
  | planRefused (entrySlot : PlanSlot)
  /-- 05 R112 -/
  | logRecords (held : Nat) (truncated : Bool) (counter : Nat) (oldest : Option Nat) (active : Bool)
      (records : List AttemptRecord)
  /-- 05 R113 -/
  | logSummary (summary : Summary)
  | logNoSummary (held counter : Nat) (active : Bool)
  /-- 10 R192 -/
  | pendingRead (set : ReportSet)
  /-- 10 R191 -/
  | mask (mask pendingSet : ReportSet)
  /-- 06 R137, R138 -/
  | portPower (power : Power)
  /-- 06 R139 -/
  | attention (former : List (Port × Attention))
  /-- 01 R25 -/
  | cleared (freed kept : Nat)
  /-- 11 R196 -/
  | imageCrc (crc : Word)
  deriving DecidableEq, Repr

/-- A reply frame (10 R187). -/
structure Reply where
  type : Byte
  code : ReplyCode
  frameError : Bool
  overrun : Bool
  pendingSet : ReportSet
  contents : Contents
  deriving DecidableEq, Repr

/-- A frame of the outbound queue (10 R185). -/
inductive OutFrame where
  | reply (reply : Reply)
  | report (report : Report)
  deriving DecidableEq, Repr

/-- The Host Link Unit (10), less the report mask, which is in the configuration. `resetPending` is set
from an accepted RESET until its reset (10 R194). -/
structure Link where
  rx : Receiver
  inbound : List Frame
  outbound : List OutFrame
  frameError : Bool
  overrun : Bool
  pendingSet : ReportSet
  resetPending : Bool
  deriving DecidableEq, Repr

end Sys2Proof.Machine
end

