-- ==== Sys2Proof/Syntax.lean ====
section
/-! DEFINITION. The commands: one constructor of `Instr` for each row of spec/opcode_table.json, and the
types of their operands. Operands of the host line and the module lines are the bytes of the layouts of
10 section 10.7, unchecked. -/

namespace Sys2Proof

/-- One network group of a SCAN_RESULT as its six bytes give it (07 R143, R144). -/
structure NetworkGroup where
  operator : Code24
  cls : Byte
  level : Byte
  quality : Byte
  deriving DecidableEq, Repr

/-- SET_TUNING's seven values, each of which may be absent (10 R189). -/
structure TuningArgs where
  floor : Option Word
  ringTimeout : Option Byte
  callbackWindow : Option Word
  recoveryLimit : Option Byte
  standbyEnable : Option Byte
  answerInIdle : Option Byte
  entrySlot : Option Byte
  deriving DecidableEq, Repr

/-- SET_SUPPLY's three thresholds, each of which may be absent (09 R169). -/
structure SupplyArgs where
  warn : Option Word
  shed : Option Word
  cutoff : Option Word
  deriving DecidableEq, Repr

/-- SET_SURVEY's three groups, each of which may be absent (08 R159). -/
structure SurveyArgs where
  period : Option Word
  compares : Option (PerPort Word)
  policies : Option (PerPort Byte)
  deriving DecidableEq, Repr

/-- A 5-byte step record (10 section 10.7, Step record). -/
structure StepBytes where
  action : Byte
  more : Byte
  operand : Byte
  filter : Byte
  tries : Byte
  deriving DecidableEq, Repr

/-- A record of SET_PREFERENCES: an operator code and a preference byte, FFh for BAR (01 R15, 10 section
10.7 steps 5 and 7). -/
structure PreferenceBytes where
  operator : Code24
  preference : Byte
  deriving DecidableEq, Repr

/-- The requests of 10 section 10.4 with their fields, as a payload that is long enough gives them. The
forms of a request that carries a selector or an action are apart; an unknown selector or action is no
request of this type (10 R186: see `Machine.parseRequest`). -/
inductive Request where
  | status
  | startCall
  | endCall
  | setTuning (args : TuningArgs)
  | setSupply (args : SupplyArgs)
  | setSurvey (args : SurveyArgs)
  | surveyHold
  | surveyRelease
  | surveyNow (ports : Byte)
  | loadSteps (first : Byte) (records : List StepBytes)
  | loadDestination (number : Byte) (digits : List Byte) (dataFlag : Byte)
  | setPreferences (records : List PreferenceBytes)
  | setBoxRecord (identity location : List Byte)
  | readTableBySlot (first count : Byte)
  | readTableRanked (position count : Byte)
  | readPlanSteps (first count : Byte)
  | readPlanDestination (number : Byte)
  | readPlanBox
  | readLogRecords (position count : Byte)
  | readLogSummary
  | readPending
  | setReports (mask : Byte)
  | portControlDisable (port : Byte)
  | portControlEnable (port : Byte)
  | clearAttention (ports : Byte)
  | clearTable
  | commitConfig
  | reset (force : Byte)
  deriving DecidableEq, Repr

/-- The commands, one constructor for each row of spec/opcode_table.json, in the table's order. -/
inductive Instr where
  | powerOnReset (straps : Straps)
  | pinReset (straps : Straps)
  | callPress
  | tick
  | entryAged (slot : TableSlot)
  | waitExpiry
  | ringTimeout
  | callbackWindowExpiry
  | orderTimeout (port : Port)
  | wakeTimeout (port : Port)
  | sleepTimeout (port : Port)
  | silenceTimeout (port : Port)
  | portRestart (port : Port)
  | policySleep (port : Port)
  | keepWarmWake (port : Port)
  | periodEnd
  | compareMatch (point : Port)
  | conversionStart
  | conversionDone (code : BitVec 12)
  | campaignIdleNotice
  | hostFrameReceived (bytes : List Byte)
  | receiveGap
  | outboundFrameSent
  | moduleFrameError (port : Port) (bytes : List Byte)
  | unknownNotice (port : Port) (type : Byte) (payload : List Byte)
  | wakeDone (port : Port)
  | sleepDone (port : Port)
  | scanResult (port : Port) (networks : List NetworkGroup)
  | attachResult (port : Port) (result cause : Byte)
  | detachDone (port : Port)
  | callProgressAlerting (port : Port)
  | callProgressConnected (port : Port)
  | callEnded (port : Port) (cause moduleCause : Byte)
  | incoming (port : Port) (digits : Option (List Byte))
  | servingLevel (port : Port) (level quality : Byte)
  | dataResult (port : Port) (result : Byte)
  | moduleAlertFault (port : Port)
  | moduleAlertRegistrationLost (port : Port)
  | status
  | startCall
  | endCall
  | setTuning (args : TuningArgs)
  | setSupply (args : SupplyArgs)
  | setSurvey (args : SurveyArgs)
  | surveyHold
  | surveyRelease
  | surveyNow (ports : Byte)
  | loadSteps (first : Byte) (records : List StepBytes)
  | loadDestination (number : Byte) (digits : List Byte) (dataFlag : Byte)
  | setPreferences (records : List PreferenceBytes)
  | setBoxRecord (identity location : List Byte)
  | readTableBySlot (first count : Byte)
  | readTableRanked (position count : Byte)
  | readPlanSteps (first count : Byte)
  | readPlanDestination (number : Byte)
  | readPlanBox
  | readLogRecords (position count : Byte)
  | readLogSummary
  | readPending
  | setReports (mask : Byte)
  | portControlDisable (port : Byte)
  | portControlEnable (port : Byte)
  | clearAttention (ports : Byte)
  | clearTable
  | commitConfig
  | commitDone (verified : Bool)
  | reset (force : Byte)
  | unknownRequest (type : Byte) (payload : List Byte)
  | moduleReceiveGap (port : Port)
  | callLineRelease
  deriving DecidableEq, Repr

end Sys2Proof
end

