-- ==== Sys2Proof/Decode.lean ====
section
/-! DEFINITION. Commands that a word spells. The opcode table gives no row any bits: the coordinator's
commands are events of pins, lines and clocks, so no word spells one. -/

namespace Sys2Proof

/-- The command a word of the table's bits spells: none, since the table gives no row bits. -/
def decodeTableWord (_nbits _w : Nat) : Option Instr := none

end Sys2Proof
end

