-- ==== Sys2Proof/Machine/Crc.lean ====
section
/-! DEFINITION. The check value of frames and of the stored image (10 R182). -/

namespace Sys2Proof.Machine

/-- One shift of the register: left by one bit, and 1021h combined in when the bit shifted out was 1. -/
def crcShift (r : Word) : Word := if r.getLsbD 15 then (r <<< 1) ^^^ 0x1021#16 else r <<< 1

/-- The register combined with a byte in its upper eight bits. -/
def crcMix (r : Word) (b : Byte) : Word := r ^^^ ((b.setWidth 16) <<< 8)

/-- One byte taken into the register: eight shifts after the mixing. -/
def crcByte (r : Word) (b : Byte) : Word :=
  crcShift (crcShift (crcShift (crcShift (crcShift (crcShift (crcShift (crcShift (crcMix r b))))))))

/-- The register after a list of bytes. -/
def crcFrom (r : Word) (bytes : List Byte) : Word := bytes.foldl crcByte r

/-- The check value: the register starts at FFFFh (10 R182). -/
def crc16 (bytes : List Byte) : Word := crcFrom 0xFFFF#16 bytes

end Sys2Proof.Machine
end

