-- ==== Sys2Proof/Machine/Flags.lean ====
section
/-! DEFINITION. Small sets of flags: holds, class filters, attention sets, report sets, hold sets and their
bits on the lines (10 section 10.7, step 4). -/

namespace Sys2Proof.Machine

/-- One bit of a set's byte. -/
def flagBit (set : Bool) (bit : Nat) : Byte := if set then BitVec.ofNat 8 (2 ^ bit) else 0

/-! ## Class filters (02 section 2.1) -/

/-- The set holds the class. -/
def ClassSet.has (f : ClassSet) : AccessClass → Bool
  | .legacy => f.legacy
  | .wide => f.wide
  | .packet => f.packet

/-- The empty set is taken as all three classes wherever a filter is used (02 R27, 01 R21). -/
def ClassSet.admits (f : ClassSet) (c : AccessClass) : Bool :=
  if f.legacy || f.wide || f.packet then f.has c else true

/-- Class-filter bits; bits 3 to 7 are ignored (10 section 10.7, Step record). -/
def ClassSet.ofByte (b : Byte) : ClassSet := ⟨b.getLsbD 0, b.getLsbD 1, b.getLsbD 2⟩

/-- Class-filter bits. -/
def ClassSet.toByte (f : ClassSet) : Byte := flagBit f.legacy 0 ||| flagBit f.wide 1 ||| flagBit f.packet 2

/-! ## Holds (01 R17) -/

/-- The set holds the kind. -/
def Holds.has (h : Holds) : HoldKind → Bool
  | .attempt => h.attempt
  | .call => h.call
  | .standby => h.standby
  | .callback => h.callback

/-- Put a kind into the set or take it out; either may leave the set as it was (01 R17). -/
def Holds.put (h : Holds) (k : HoldKind) (on : Bool) : Holds :=
  match k with
  | .attempt => { h with attempt := on }
  | .call => { h with call := on }
  | .standby => { h with standby := on }
  | .callback => { h with callback := on }

/-- The set is not empty: the entry is in use (01 section 1.1). -/
def Holds.any (h : Holds) : Bool := h.attempt || h.call || h.standby || h.callback

/-- Hold bits. -/
def Holds.toByte (h : Holds) : Byte :=
  flagBit h.attempt 0 ||| flagBit h.call 1 ||| flagBit h.standby 2 ||| flagBit h.callback 3

/-! ## Attention sets (06 R139) -/

/-- Attention bits. -/
def Attention.toByte (a : Attention) : Byte :=
  flagBit a.moduleFault 0 ||| flagBit a.registrationLost 1 ||| flagBit a.incoming 2
    ||| flagBit a.restarted 3

/-! ## Report classes (10 R190) -/

/-- The set holds the class. -/
def ReportSet.has (r : ReportSet) : ReportClass → Bool
  | .campaign => r.campaign
  | .network => r.network
  | .port => r.port
  | .supply => r.supply
  | .survey => r.survey
  | .press => r.press

/-- The set with the class in it. -/
def ReportSet.insert (r : ReportSet) : ReportClass → ReportSet
  | .campaign => { r with campaign := true }
  | .network => { r with network := true }
  | .port => { r with port := true }
  | .supply => { r with supply := true }
  | .survey => { r with survey := true }
  | .press => { r with press := true }

/-- Class bits (10 section 10.7). -/
def ReportSet.toByte (r : ReportSet) : Byte :=
  flagBit r.campaign 0 ||| flagBit r.network 1 ||| flagBit r.port 2 ||| flagBit r.supply 3
    ||| flagBit r.survey 4 ||| flagBit r.press 5

/-- The mask of a SET_REPORTS; none when bit 6 or 7 names something else (10 R191). -/
def ReportSet.ofByte? (b : Byte) : Option ReportSet :=
  if b.getLsbD 6 || b.getLsbD 7 then none
  else some ⟨b.getLsbD 0, b.getLsbD 1, b.getLsbD 2, b.getLsbD 3, b.getLsbD 4, b.getLsbD 5⟩

/-- The class a report belongs to; START has none (10 section 10.5). -/
def Report.cls : Report → Option ReportClass
  | .start .. => none
  | .started .. | .state .. | .standby .. | .incoming .. | .attempt .. | .summary .. => some .campaign
  | .netAdded .. | .netReturned .. | .netLost .. | .netFreed .. | .netTableFull .. | .netCleared .. =>
    some .network
  | .port .. => some .port
  | .supplyMode .. | .supplyHalt .. => some .supply
  | .periodEnd .. => some .survey
  | .press .. => some .press

/-! ## Powers and modes -/

/-- FAULT, DEAD and DISABLED ports take no order and make their entries ineligible (01 R21, 06 R116). -/
def Power.usable : Power → Bool
  | .disabled | .fault | .dead => false
  | .off | .waking | .on | .sleeping => true

/-- The order of severity of 09. -/
def SupplyMode.severity : SupplyMode → Nat
  | .normal => 0
  | .low => 1
  | .shed => 2
  | .cutoff => 3

/-- The hold set of the Survey Timer is empty (08 R153). -/
def Survey.running (v : Survey) : Bool := !v.holdHost && !v.holdHalt

/-- A campaign is active: its state is not IDLE (03 R53). -/
def Campaign.active (c : Campaign) : Bool := c.state != .idle

end Sys2Proof.Machine
end

