-- ==== Sys2Proof/Machine/Defaults.lean ====
section
/-! DEFINITION. The built-in defaults of the working configuration (11 R195) and the values each block
takes after a reset (11 R199 and the rules it gathers). -/

namespace Sys2Proof.Machine

/-- The same value for each port. -/
def allPorts {α : Type} (a : α) : PerPort α := ⟨a, a, a, a⟩

/-- The set of all three classes. -/
def ClassSet.all : ClassSet := ⟨true, true, true⟩

/-- The tuning defaults of 10 R189. -/
def Tuning.builtin : Tuning where
  floor := 120
  ringTimeout := 60
  callbackWindow := 600
  recoveryLimit := 3
  standbyEnable := true
  answerInIdle := false
  entrySlot := 0

/-- The threshold defaults of 09 R166. -/
def Thresholds.builtin : Thresholds := ⟨11800, 11300, 10500⟩

/-- The default plan of the table after 02 R51: slot 0 with 3 tries, the others with 1. -/
def defaultSteps : Vector PlanStep 64 :=
  (Vector.replicate 64 (.dial 0 ClassSet.all 1 false)).set 0 (.dial 0 ClassSet.all 3 false)

/-- The five characters UNSET (02 section 2.6). -/
def unsetText : List Byte := [0x55, 0x4E, 0x53, 0x45, 0x54]

/-- The default report mask of 10 R190. -/
def ReportSet.builtin : ReportSet where
  campaign := true
  network := false
  port := true
  supply := true
  survey := false
  press := true

/-- The empty set of report classes. -/
def ReportSet.empty : ReportSet := ⟨false, false, false, false, false, false⟩

/-- The built-in defaults (11 R195). -/
def WorkingConfig.builtin : WorkingConfig where
  tuning := Tuning.builtin
  thresholds := Thresholds.builtin
  period := 600
  compares := ⟨0, 150, 300, 450⟩
  policies := allPorts .onDemand
  enables := allPorts true
  steps := defaultSteps
  directory := Vector.replicate 8 ⟨[], false⟩
  box := ⟨unsetText, []⟩
  preferences := []
  mask := ReportSet.builtin

/-- The empty set of holds. -/
def Holds.empty : Holds := ⟨false, false, false, false⟩

/-- All 24 slots FREE (01 R2). -/
def NetTable.free : NetTable := ⟨Vector.replicate 24 none, []⟩

/-- The Attempt Log after a reset (05 R104). -/
def AttemptLog.empty : AttemptLog := ⟨[], false, 0, none⟩

/-- The campaign context of the column headed In IDLE (03 R53), route none (03 R81). -/
def Campaign.inIdle : Campaign where
  state := .idle
  phase := none
  origin := none
  cursor := none
  stack := []
  controlCount := 0
  dialStep := none
  afterLoss := false
  attempt := none
  callEntry := none
  callPort := none
  ringTimer := none
  waitTimer := none
  recoveries := 0
  standby := none
  recovery := none
  lastResort := none
  resurvey := none
  resurveysDone := 0
  windowTimer := none
  callbackPort := none
  presses := 0
  cancelPending := false
  planFault := none
  seconds := 0
  outcome := none
  route := none

/-- The empty attention set (06 R115). -/
def Attention.empty : Attention := ⟨false, false, false, false⟩

/-- A port context after a reset (06 R115), in power state OFF or DISABLED. -/
def PortContext.afterReset (power : Power) : PortContext where
  power := power
  attachment := .none
  call := .none
  inFlight := none
  queue := []
  attention := Attention.empty
  restartCount := 0
  restartTimer := none
  silenceTimer := none
  rx := .hunting
  tickDue := false

/-- The Survey Timer after a reset (08 R153): the compares in force are the buffered ones. -/
def Survey.afterReset (compares : PerPort Nat) : Survey where
  counter := 0
  inForce := compares
  holdHost := false
  holdHalt := false
  periodEnds := 0
  records := allPorts .none
  periodEndDue := false
  matchDue := allPorts false

/-- The Supply Monitor after a reset (09 R166): the first conversion is started. -/
def Supply.afterReset : Supply where
  last := none
  mode := .normal
  halt := false
  converting := true
  interval := 10
  idleNotices := 0

/-- The Host Link Unit after a reset (10 R180, R183 to R185, R190). -/
def Link.afterReset : Link where
  rx := .hunting
  inbound := []
  outbound := []
  frameError := false
  overrun := false
  pendingSet := ReportSet.empty
  resetPending := false

/-- A store no COMMIT_CONFIG has written yet: the mark is clear, so the copy is not readable (log 9). -/
def Store.blank : Store := ⟨false, WorkingConfig.builtin, 0, none⟩

end Sys2Proof.Machine
end

