-- ==== Sys2Proof/Machine/State.lean ====
section
/-! DEFINITION. The state of the coordinator as plain data, the reasons a step can stop, and the state
right after reset. -/

namespace Sys2Proof.Machine

/-- Why the machine stops. -/
inductive Fault where
  /-- Raised by any command whose event runs the campaign's chain (the plan walk and what follows it)
  when that chain does not end: a plan whose DIAL or RESURVEY steps end at once and lead back to
  themselves (02 R29, R30). The hardware never finishes that event either. Safe (log 11). -/
  | eventNeverEnds
  deriving DecidableEq, Repr

/-- Why a command has no meaning. -/
inductive Refusal where
  /-- Raised by `exec`'s arm for a command with no meaning yet; no arm raises it now. Safe. -/
  | notModelled (mnemonic : String)
  deriving DecidableEq, Repr

/-- The whole state: the working configuration and the blocks of 00_scope.md, with the queue of
commands that are waiting. -/
structure State where
  /-- the working configuration (11 R195) -/
  cfg : WorkingConfig
  /-- the Network Table (01) -/
  table : NetTable
  /-- the Attempt Log (05) -/
  log : AttemptLog
  /-- the campaign context, standby record and audio route (03, 04) -/
  campaign : Campaign
  /-- the port contexts (06) -/
  ports : PerPort PortContext
  /-- the Survey Timer (08) -/
  survey : Survey
  /-- the Supply Monitor (09) -/
  supply : Supply
  /-- the Host Link Unit (10) -/
  link : Link
  /-- the Configuration Store (11) -/
  store : Store
  /-- the straps as read at the last reset (11 R199) -/
  board : Straps
  /-- the board wiring, as the next reset would read it (log 7) -/
  straps : Straps
  /-- the press detector is armed: released for 50 ms since the last press (03 R55) -/
  armed : Bool
  /-- the model's own count of tries, standbys and resurveys begun (log 19) -/
  serial : Nat
  /-- the commands that are waiting, first in, first out -/
  pending : List Instr
  deriving DecidableEq, Repr

/-- The straps of the board that `State.reset` stands on: four modules fitted, 115200 baud (log 7). -/
def resetBoard : Straps := ⟨⟨true, true, true, true⟩, .baud115200⟩

/-- A port right after start-up's last event (11 R200): its START SCAN stands behind the WAKE sent for it. -/
def startedPort : PortContext :=
  { PortContext.afterReset .waking with
    inFlight := some ⟨⟨.wake .demand, .port⟩, 20⟩
    queue := [⟨.scan, .start⟩] }

/-- The machine right after a POWER_ON reset with a blank store (11 R198 to R200; logs 7, 8, 9). -/
def State.reset : State where
  cfg := WorkingConfig.builtin
  table := NetTable.free
  log := AttemptLog.empty
  campaign := Campaign.inIdle
  ports := ⟨startedPort, startedPort, startedPort, startedPort⟩
  survey := Survey.afterReset WorkingConfig.builtin.compares
  supply := Supply.afterReset
  link := { Link.afterReset with
    outbound := [.report (.start .powerOn true resetBoard.fitted resetBoard.rate)] }
  store := Store.blank
  board := resetBoard
  straps := resetBoard
  armed := true
  serial := 0
  pending := []

end Sys2Proof.Machine
end

