-- ==== Sys2Proof/Machine/Ops.lean ====
section
/-! DEFINITION. Shared operations: access by port, one modifier per block of the state, saturating counts
and clamping, and the handing of reports to the Host Link Unit (10 R185, R190). -/

namespace Sys2Proof.Machine

/-! ## Ports by number -/

/-- P0 to P3 in order. -/
def portList : List Port := [.p0, .p1, .p2, .p3]

/-- The number of a port, as 0 to 3. -/
def portNumber : Port → Nat
  | .p0 => 0
  | .p1 => 1
  | .p2 => 2
  | .p3 => 3

/-- The port of a number; none above 3. -/
def portOfNat? : Nat → Option Port
  | 0 => some .p0
  | 1 => some .p1
  | 2 => some .p2
  | 3 => some .p3
  | _ => none

end Sys2Proof.Machine

namespace Sys2Proof

/-- The value for one port. -/
def PerPort.get {α : Type} (v : PerPort α) : Port → α
  | .p0 => v.p0
  | .p1 => v.p1
  | .p2 => v.p2
  | .p3 => v.p3

/-- The same values but one. -/
def PerPort.put {α : Type} (v : PerPort α) (p : Port) (a : α) : PerPort α :=
  match p with
  | .p0 => { v with p0 := a }
  | .p1 => { v with p1 := a }
  | .p2 => { v with p2 := a }
  | .p3 => { v with p3 := a }

/-- One value for each port, from a function of the port. -/
def PerPort.build {α : Type} (f : Port → α) : PerPort α := ⟨f .p0, f .p1, f .p2, f .p3⟩

/-- Each value changed. -/
def PerPort.map {α β : Type} (f : α → β) (v : PerPort α) : PerPort β := ⟨f v.p0, f v.p1, f v.p2, f v.p3⟩

end Sys2Proof

namespace Sys2Proof.Machine

/-! ## Numbers -/

/-- A count up by 1 that stays at its limit. -/
def countUp (limit n : Nat) : Nat := if n < limit then n + 1 else limit

/-- A value brought to the nearer end of its range (00, Conventions). -/
def clampNat (lo hi n : Nat) : Nat := if n < lo then lo else if hi < n then hi else n

/-- The same on signed values. -/
def clampInt (lo hi n : Int) : Int := if n < lo then lo else if hi < n then hi else n

/-- A timer down by 1, stopping at 0; an absent timer stays absent. -/
def timerDown (t : Option Nat) : Option Nat := t.map (· - 1)

/-! ## Blocks of the state -/

/-- Change the Network Table. -/
def State.onTable (f : NetTable → NetTable) (s : State) : State := { s with table := f s.table }

/-- Change the Attempt Log. -/
def State.onLog (f : AttemptLog → AttemptLog) (s : State) : State := { s with log := f s.log }

/-- Change the campaign context. -/
def State.onCampaign (f : Campaign → Campaign) (s : State) : State := { s with campaign := f s.campaign }

/-- The port context of one port. -/
def State.port (s : State) (p : Port) : PortContext := s.ports.get p

/-- Change one port context. -/
def State.onPort (p : Port) (f : PortContext → PortContext) (s : State) : State :=
  { s with ports := s.ports.put p (f (s.ports.get p)) }

/-- Change the Survey Timer. -/
def State.onSurvey (f : Survey → Survey) (s : State) : State := { s with survey := f s.survey }

/-- Change the Supply Monitor. -/
def State.onSupply (f : Supply → Supply) (s : State) : State := { s with supply := f s.supply }

/-- Change the Host Link Unit. -/
def State.onLink (f : Link → Link) (s : State) : State := { s with link := f s.link }

/-- Change the working configuration. -/
def State.onConfig (f : WorkingConfig → WorkingConfig) (s : State) : State := { s with cfg := f s.cfg }

/-- Apply a change for each port of a list, in the list's order. -/
def eachPort (f : Port → State → State) : List Port → State → State
  | [], s => s
  | p :: rest, s => eachPort f rest (f p s)

/-- Apply a change for each table slot of a list, in the list's order. -/
def eachSlot (f : TableSlot → State → State) : List TableSlot → State → State
  | [], s => s
  | slot :: rest, s => eachSlot f rest (f slot s)

/-- The model's own count of tries, standbys and resurveys goes on (log 19). -/
def State.bumpSerial (s : State) : State := { s with serial := s.serial + 1 }

/-! ## Reports (10 R185, R190) -/

/-- Hand a report to the Host Link Unit: an enabled one is placed while the queue holds 6 frames or fewer,
otherwise its class joins the pending set; START is placed whatever the mask says (10 R190). -/
def raise (r : Report) (s : State) : State :=
  match r.cls with
  | none => s.onLink fun l => { l with outbound := l.outbound ++ [.report r] }
  | some c =>
    if s.cfg.mask.has c && decide (s.link.outbound.length ≤ 6) then
      s.onLink fun l => { l with outbound := l.outbound ++ [.report r] }
    else
      s.onLink fun l => { l with pendingSet := l.pendingSet.insert c }

end Sys2Proof.Machine
end

