-- ==== Sys2Proof/Machine/Log.lean ====
section
/-! DEFINITION. The Attempt Log (05): numbering, placing of records, clearing, the summary. -/

namespace Sys2Proof.Machine

/-- The number the next assignment hands out: the counter up by 1, staying at 65535 (05 R106). -/
def nextNumber (s : State) : Nat := countUp 65535 s.log.counter

/-- An assignment: the counter becomes the number handed out (05 R106). -/
def useNumber (s : State) : State := s.onLog fun l => { l with counter := countUp 65535 l.counter }

/-- Place a record: the 17th removes the oldest and sets the truncated flag (05 R108). -/
def AttemptLog.place (l : AttemptLog) (r : AttemptRecord) : AttemptLog :=
  if l.records.length < 16 then { l with records := l.records ++ [r] }
  else { l with records := l.records.drop 1 ++ [r], truncated := true }

/-- Write a record and raise its ATTEMPT report (05 R107). -/
def writeRecord (r : AttemptRecord) (s : State) : State :=
  let s1 := s.onLog fun l => l.place r
  raise (.attempt r s1.log.records.length s1.log.truncated) s1

/-- The record of a DIAL step that ends without a try, with its number (05 R106, R107). -/
def writeStepRecord (d : DialStep) (outcome : TryOutcome) (s : State) : State :=
  writeRecord
    { number := nextNumber s, origin := .plan, slot := some d.slot, destination := some d.destination
      port := none, net := none, score := none, outcome := outcome, cause := none, talk := none
      data := none } (useNumber s)

/-- Outcomes whose records carry talk seconds (05 section 5.2). -/
def TryOutcome.hasTalk : TryOutcome → Bool
  | .cleared | .endedByBox | .dropped => true
  | .attachFailed | .rejected | .busy | .noAnswer | .portFailed | .aborted | .emptyDestination
  | .noCandidate => false

/-- The record of a try as it ends (05 R105); the score goes with the network. -/
def CurrentTry.record (t : CurrentTry) (outcome : TryOutcome) : AttemptRecord where
  number := t.number.getD 0
  origin := t.origin
  slot := t.slot
  destination := t.destination
  port := t.port
  net := t.net
  score := t.score
  outcome := outcome
  cause := t.cause
  talk := if outcome.hasTalk then some (t.talk.getD 0) else none
  data := t.data

/-- The clearing of a campaign start (05 R109). -/
def clearLog (s : State) : State := s.onLog fun _ => AttemptLog.empty

/-- Write the summary from the context and the log, and raise its report (05 R110, R111). -/
def writeSummary (outcome : CampaignOutcome) (s : State) : State :=
  let m : Summary :=
    { origin := s.campaign.origin, outcome := outcome, total := s.log.counter
      recoveries := s.campaign.recoveries, planFault := s.campaign.planFault, seconds := s.campaign.seconds
      presses := s.campaign.presses, truncated := s.log.truncated }
  raise (.summary m) (s.onLog fun l => { l with summary := some m })

end Sys2Proof.Machine
end

