-- ==== Sys2Proof/Machine/Table.lean ====
section
/-! DEFINITION. The Network Table (01): samples and averages, scores, the ranked order, eligibility and
its questions, holds, creation, eviction, freeing. The ranked order is computed at each question from the
slots, which is the order after the recomputations of R19 and R20. -/

namespace Sys2Proof.Machine

/-! ## Preference and score (01 R16, R18) -/

/-- The preference of an operator: the first matching record's, else 1 (01 R16). -/
def lookupPreference (prefs : List PreferenceRecord) (operator : Nat) : Preference :=
  match prefs.find? fun r => r.operator == operator with
  | some r => r.preference
  | none => .weight 1

/-- Stage 3: the level term. -/
def levelTerm (level : Int) : Int := 2 * (clampInt (-480) (-240) level + 480)

/-- Stage 4: the quality term; its argument is never negative. -/
def qualityTerm (quality : Int) : Int := 3 * (clampInt (-40) 80 quality + 40) / 2

/-- Stage 5: the preference term, 0 for BAR. -/
def preferenceTerm : Preference → Int
  | .bar => 0
  | .weight n => 40 * n.val

/-- Stage 6: the age penalty. -/
def agePenalty (age : Nat) : Int := min (age / 16) 160

/-- Stage 7: the failure penalty. -/
def failurePenalty (failures : Nat) : Int := 90 * failures

/-- Stages 3 to 8: the score of an entry from its fields (01 R18). -/
def scoreOf (e : Entry) : Nat :=
  (clampInt 0 780 (levelTerm e.level + qualityTerm e.quality + preferenceTerm e.preference
    - agePenalty e.age - failurePenalty e.failures)).toNat

/-- A score computation: the preference is looked up and stored, then the score (01 R16, R18). -/
def rescore (prefs : List PreferenceRecord) (e : Entry) : Entry :=
  let e1 := { e with preference := lookupPreference prefs e.net.operator }
  { e1 with score := scoreOf e1 }

/-! ## Samples (01 R7 to R9) -/

/-- A sample as its two bytes give it, clamped by R7; 127 is an absent quality. -/
def sampleOf (net : NetworkId) (level quality : Byte) : Sample where
  net := net
  level := clampInt (-140) (-44) level.toInt
  quality := if quality.toInt == 127 then none else some (clampInt (-20) 30 quality.toInt)

/-- One averaging stage: four times the sample at the first, else a quarter of the difference truncated
toward zero (01 R8, R9). -/
def averaged (samples : Nat) (average sample : Int) : Int :=
  if samples = 0 then 4 * sample else average + Int.tdiv (4 * sample - average) 4

/-- The quality average after a sample; an absent quality leaves it, and gives 0 at the first (01 R9). -/
def averagedQuality (samples : Nat) (average : Int) : Option Int → Int
  | some q => averaged samples average q
  | none => if samples = 0 then 0 else average

/-- Apply a sample: averages, count, age 0, state SEEN and the new score (01 R5, R8, R9). -/
def Entry.sampled (prefs : List PreferenceRecord) (m : Sample) (e : Entry) : Entry :=
  rescore prefs { e with
    level := averaged e.samples e.level m.level
    quality := averagedQuality e.samples e.quality m.quality
    samples := countUp 255 e.samples
    age := 0
    state := .seen }

/-- The entry a first sample creates (01 R3). -/
def newEntry (prefs : List PreferenceRecord) (p : Port) (m : Sample) : Entry :=
  Entry.sampled prefs m
    { state := .seen, port := p, net := m.net, level := 0, quality := 0, samples := 0, age := 0, failures := 0
      preference := .weight 1, score := 0, holds := Holds.empty, lastCause := none }

/-! ## Slots -/

/-- Slots 0 to 23 in order. -/
def tableSlots : List TableSlot := List.finRange 24

/-- The entry of a slot; none when FREE. -/
def NetTable.entry (t : NetTable) (slot : TableSlot) : Option Entry := t.slots.get slot

/-- Put an entry into a slot, or free it. -/
def NetTable.putEntry (t : NetTable) (slot : TableSlot) (e : Option Entry) : NetTable :=
  { t with slots := t.slots.set slot e }

/-- Change the entry of a slot; a FREE slot stays FREE. -/
def NetTable.onEntry (slot : TableSlot) (f : Entry → Entry) (t : NetTable) : NetTable :=
  t.putEntry slot ((t.entry slot).map f)

/-- Change every entry. -/
def NetTable.onAll (f : Entry → Entry) (t : NetTable) : NetTable :=
  { t with slots := t.slots.map fun e => e.map f }

/-- The entry has this identity (01 section 1.1). -/
def Entry.isOf (e : Entry) (p : Port) (net : NetworkId) : Bool := e.port == p && e.net == net

/-- The slot of the non-FREE entry for a network on a port. -/
def NetTable.find (t : NetTable) (p : Port) (net : NetworkId) : Option TableSlot :=
  tableSlots.find? fun slot => (t.entry slot).any (·.isOf p net)

/-- The lowest-numbered FREE slot (01 R1). -/
def NetTable.freeSlot? (t : NetTable) : Option TableSlot :=
  tableSlots.find? fun slot => (t.entry slot).isNone

/-- The slots whose entries meet a test, in slot order. -/
def NetTable.slotsWhere (t : NetTable) (test : Entry → Bool) : List TableSlot :=
  tableSlots.filter fun slot => (t.entry slot).any test

/-- Recompute every score (01 R19). -/
def rescoreAll (s : State) : State := s.onTable fun t => t.onAll (rescore s.cfg.preferences)

/-! ## Holds (01 R17) -/

/-- Grant a hold to the entry of a slot. -/
def grantHold (kind : HoldKind) (slot : TableSlot) (s : State) : State :=
  s.onTable fun t => t.onEntry slot fun e => { e with holds := e.holds.put kind true }

/-- Withdraw a hold from the entry of a slot. -/
def withdrawHold (kind : HoldKind) (slot : TableSlot) (s : State) : State :=
  s.onTable fun t => t.onEntry slot fun e => { e with holds := e.holds.put kind false }

/-- Withdraw a hold from every entry that carries it. -/
def withdrawEverywhere (kind : HoldKind) (s : State) : State :=
  s.onTable fun t => t.onAll fun e => { e with holds := e.holds.put kind false }

/-- Withdraw every hold (03 R82). -/
def withdrawAllHolds (s : State) : State :=
  s.onTable fun t => t.onAll fun e => { e with holds := Holds.empty }

/-! ## The ranked order and eligibility (01 R20 to R23) -/

/-- R20's order: score, highest first, then age, lowest first, then slot, lowest first. -/
def ranksBefore (a b : TableSlot × Entry) : Bool :=
  if a.2.score = b.2.score then
    if a.2.age = b.2.age then decide (a.1 ≤ b.1) else decide (a.2.age < b.2.age)
  else decide (b.2.score < a.2.score)

/-- The SEEN entries by slot. -/
def NetTable.seenEntries (t : NetTable) : List (TableSlot × Entry) :=
  tableSlots.filterMap fun slot =>
    match t.entry slot with
    | some e => if e.state = .seen then some (slot, e) else none
    | none => none

/-- The ranked order (01 R20). -/
def NetTable.ranked (t : NetTable) : List (TableSlot × Entry) :=
  t.seenEntries.insertionSort fun a b => ranksBefore a b = true

/-- The last-resort set's conditions, which are R21's but floor and class (01 R23). -/
def inLastResortSet (s : State) (slot : TableSlot) : Bool :=
  match s.table.entry slot with
  | none => false
  | some e =>
    e.state == .seen && e.preference != .bar && (s.port e.port).power.usable
      && !(s.campaign.dialStep.any fun d => d.excluded.contains slot)

/-- Eligibility under a class filter (01 R21). -/
def eligible (s : State) (filter : ClassSet) (slot : TableSlot) : Bool :=
  inLastResortSet s slot && ((s.table.entry slot).any fun e =>
    decide (s.cfg.tuning.floor ≤ e.score) && filter.admits e.net.cls)

/-- The first kind of question: the first eligible entry in ranked order (01 R22). -/
def firstEligible (s : State) (filter : ClassSet) : Option TableSlot :=
  (s.table.ranked.map Prod.fst).find? (eligible s filter)

/-- The second kind: the same over all classes, on a port other than the one given (01 R22). -/
def standbyCandidate (s : State) (avoid : Option Port) : Option TableSlot :=
  (s.table.ranked.map Prod.fst).find? fun slot =>
    eligible s ClassSet.all slot && ((s.table.entry slot).any fun e => some e.port != avoid)

/-- The fourth kind: the last-resort set in ranked order (01 R22, R23). -/
def frozenSet (s : State) : List TableSlot :=
  (s.table.ranked.map Prod.fst).filter (inLastResortSet s)

/-! ## Creation, eviction, freeing (01 R3, R24, R25) -/

/-- Free a slot and report it FREED (01 R6, R24). -/
def freeSlot (slot : TableSlot) (cause : FreeCause) (s : State) : State :=
  raise (.netFreed slot cause) (s.onTable fun t => t.putEntry slot none)

/-- Create the entry of a first sample in a slot and report it ADDED (01 R3). -/
def createEntry (slot : TableSlot) (p : Port) (m : Sample) (s : State) : State :=
  raise (.netAdded slot p m.net)
    (s.onTable fun t => t.putEntry slot (some (newEntry s.cfg.preferences p m)))

/-- Keep the better of two candidates for eviction; the earlier slot keeps a tie. -/
def worstSlot (better : Entry → Entry → Bool) : List (TableSlot × Entry) → Option (TableSlot × Entry)
  | [] => none
  | c :: rest =>
    match worstSlot better rest with
    | none => some c
    | some d => if better d.2 c.2 then some d else some c

/-- The entries with their slots that meet a test, in slot order. -/
def NetTable.entriesWhere (t : NetTable) (test : Entry → Bool) : List (TableSlot × Entry) :=
  tableSlots.filterMap fun slot =>
    match t.entry slot with
    | some e => if test e then some (slot, e) else none
    | none => none

/-- R24's first choice: the oldest LOST entry not in use. -/
def NetTable.evictLost (t : NetTable) : Option TableSlot :=
  (worstSlot (fun d c => decide (c.age < d.age))
    (t.entriesWhere fun e => e.state == .lost && !e.holds.any)).map Prod.fst

/-- R24's second choice: the lowest-scored SEEN entry below the floor not in use, the oldest at a tie. -/
def NetTable.evictSeen (t : NetTable) (floor : Nat) : Option TableSlot :=
  (worstSlot (fun d c => decide (d.score < c.score) || (d.score == c.score && decide (c.age < d.age)))
    (t.entriesWhere fun e => e.state == .seen && !e.holds.any && decide (e.score < floor))).map Prod.fst

/-- Record a network that has no entry on the port (01 R1, R3, R24). -/
def recordNew (p : Port) (m : Sample) (s : State) : State :=
  match s.table.freeSlot? with
  | some slot => createEntry slot p m s
  | none =>
    match s.table.evictLost with
    | some slot => createEntry slot p m (freeSlot slot .evicted s)
    | none =>
      match s.table.evictSeen s.cfg.tuning.floor with
      | some slot => createEntry slot p m (freeSlot slot .evicted s)
      | none => raise (.netTableFull p m.net) s

/-- Apply a sample to the entry of a slot; a LOST entry returns (01 R5, R8, R9). -/
def sampleSlot (slot : TableSlot) (m : Sample) (s : State) : State :=
  match s.table.entry slot with
  | none => s
  | some e =>
    let s1 := s.onTable fun t => t.putEntry slot (some (e.sampled s.cfg.preferences m))
    if e.state = .lost then raise (.netReturned slot) s1 else s1

/-- Make the SEEN entry of a slot LOST and report it; anything else stays (01 R4). -/
def loseEntry (slot : TableSlot) (s : State) : State :=
  match s.table.entry slot with
  | none => s
  | some e =>
    if e.state = .seen then
      raise (.netLost slot) (s.onTable fun t => t.putEntry slot (some { e with state := .lost }))
    else s

/-- Every SEEN entry of a port becomes LOST, in slot order (01 R4; log 14). -/
def losePort (p : Port) (s : State) : State :=
  eachSlot loseEntry (s.table.slotsWhere fun e => e.state == .seen && e.port == p) s

/-! ## Failure counts (01 R13, R14) -/

/-- What an outcome does to the failure count (01 R13). -/
def TryOutcome.countsFailure : TryOutcome → Bool
  | .attachFailed | .rejected | .dropped | .portFailed => true
  | .busy | .noAnswer | .aborted | .cleared | .endedByBox | .emptyDestination | .noCandidate => false

/-- Tell the table a try's outcome over the entry of a slot (01 R13). -/
def tellOutcome (slot : TableSlot) (outcome : TryOutcome) (cause : Option Byte) (s : State) : State :=
  if outcome.countsFailure then
    s.onTable fun t => t.onEntry slot fun e =>
      rescore s.cfg.preferences { e with failures := countUp 7 e.failures, lastCause := cause }
  else s

/-- Tell the table that a try over the entry of a slot reached CONNECTED (01 R13). -/
def tellConnected (slot : TableSlot) (s : State) : State :=
  s.onTable fun t => t.onEntry slot fun e => rescore s.cfg.preferences { e with failures := 0 }

/-- The decay of a period end (01 R14). -/
def decayFailures (s : State) : State :=
  s.onTable fun t => t.onAll fun e => rescore s.cfg.preferences { e with failures := e.failures - 1 }

/-! ## The tick (01 R12, R6) -/

/-- One second on an entry: its age and its score. -/
def Entry.older (prefs : List PreferenceRecord) (e : Entry) : Entry :=
  rescore prefs { e with age := countUp 65535 e.age }

/-- An entry R6 frees: LOST, not in use, above 3600 s. -/
def Entry.aged (e : Entry) : Bool := e.state == .lost && !e.holds.any && decide (3600 < e.age)

/-- The table's part of a tick; the aged entries are then freed one by one (log 2). -/
def ageTable (s : State) : State :=
  s.onTable fun t =>
    let t1 := t.onAll (Entry.older s.cfg.preferences)
    { t1 with agedDue := t1.slotsWhere Entry.aged }

end Sys2Proof.Machine
end

