-- ==== Sys2Proof/Machine/Context.lean ====
section
/-! DEFINITION. Parts of the campaign context that other blocks' events touch: the STATE report (03 R54),
the clearing of the standby record (04 R87), the callback port (03 R80), campaign use of a port (06 R134),
and the call state and attachment of a port with what follows from their changes (06 R121, R122). -/

namespace Sys2Proof.Machine

/-! ## The STATE report -/

/-- What a STATE report tells a change of: state, phase and route (03 R54), and a resurvey begun afresh or
completed, even where it leaves the state it found (04 R103; log 20). -/
abbrev StateKey := CampaignState × Option Phase × Option Port × Option Nat × Nat

/-- The key of a campaign context. -/
def stateKey (c : Campaign) : StateKey :=
  (c.state, c.phase, c.route, c.resurvey.map Resurvey.id, c.resurveysDone)

/-- Raise a CAMPAIGN report of kind STATE with the values as they stand (03 R54). -/
def reportState (s : State) : State :=
  raise (.state s.campaign.state s.campaign.phase s.campaign.origin
    (s.campaign.attempt.bind CurrentTry.number) s.campaign.route none) s

/-- Raise it when the key is no longer the one given; the end of a campaign has raised its own (03 R82). -/
def reportChange (key : StateKey) (s : State) : State :=
  if stateKey s.campaign = key || s.campaign.state = .idle then s else reportState s

/-! ## The standby record -/

/-- Clear a present standby record: the hold is withdrawn and CLEARED is reported (04 R87). -/
def clearStandby (reason : StandbyReason) (s : State) : State :=
  match s.campaign.standby with
  | none => s
  | some b =>
    raise (.standby none b.entry b.port (some reason))
      (withdrawHold .standby b.entry (s.onCampaign fun c => { c with standby := none }))

/-- The port is the standby port. -/
def isStandbyPort (s : State) (p : Port) : Bool := s.campaign.standby.any fun b => b.port == p

/-- Lose the entry of a slot and tell the campaign: a standby on it is cleared (01 R4, R17; 04 R87). -/
def loseAndTell (slot : TableSlot) (s : State) : State :=
  let s1 := loseEntry slot s
  if s.campaign.standby.any (fun b => b.entry == slot) && ((s.table.entry slot).any fun e => e.state == .seen)
  then clearStandby .entryLost s1 else s1

/-! ## The callback port and campaign use -/

/-- The port stops being the callback port (03 R80). -/
def dropCallbackPort (p : Port) (s : State) : State :=
  if s.campaign.callbackPort = some p then
    withdrawEverywhere .callback (s.onCampaign fun c => { c with callbackPort := none })
  else s

/-- The port is awaited by a resurvey. -/
def isAwaited (s : State) (p : Port) : Bool := s.campaign.resurvey.any fun r => r.awaited.get p

/-- The port is in campaign use (06 R134). -/
def inCampaignUse (s : State) (p : Port) : Bool :=
  (s.campaign.attempt.any fun t => t.port == some p) || s.campaign.callPort == some p || isStandbyPort s p
    || s.campaign.callbackPort == some p || isAwaited s p

/-! ## Call state and attachment -/

/-- The silence timer after a change of call state: 35 on entering CONNECTED, absent on leaving (06 R122). -/
def silenceAfter (old new : CallState) (timer : Option Nat) : Option Nat :=
  if new = .connected then (if old = .connected then timer else some 35) else none

/-- Change a port's call state: the silence timer follows, a standby there is cleared when the state leaves
NONE (04 R87), and the route is none when the call port leaves CONNECTED (03 R81). -/
def setCall (p : Port) (new : CallState) (s : State) : State :=
  let old := (s.port p).call
  let s1 := s.onPort p fun c => { c with call := new, silenceTimer := silenceAfter old new c.silenceTimer }
  let s2 :=
    if old = .none ∧ new ≠ .none ∧ isStandbyPort s1 p = true then clearStandby .portCall s1 else s1
  if new ≠ .connected ∧ s2.campaign.route = some p then
    s2.onCampaign fun c => { c with route := none }
  else s2

/-- Change a port's attachment; at none the port stops being the callback port (03 R80). -/
def setAttachment (p : Port) (a : Attachment) (s : State) : State :=
  let s1 := s.onPort p fun c => { c with attachment := a }
  if a = .none then dropCallbackPort p s1 else s1

end Sys2Proof.Machine
end

