-- ==== Sys2Proof/Machine/Ports.lean ====
section
/-! DEFINITION. The Radio Port Controllers' orders (06 R116 to R121, R129 steps 1 and 2, R134 to R136):
taking, placing, sending, dropping, and bringing a port to a network (03 R60). -/

namespace Sys2Proof.Machine

/-! ## Kinds of order -/

/-- The timeout of each kind, in seconds (06 R120). -/
def orderTimeout : OrderKind → Nat
  | .wake _ => 20
  | .sleep => 5
  | .scan => 60
  | .attach .. => 45
  | .detach => 10
  | .dial _ => 40
  | .answer => 10
  | .hangup => 10
  | .refuse => 10
  | .sendData _ => 20

/-- ATTACH and DETACH change the registration (06 R121). -/
def Order.registers (o : Order) : Bool :=
  match o.kind with
  | .attach .. | .detach => true
  | .wake _ | .sleep | .scan | .dial _ | .answer | .hangup | .refuse | .sendData _ => false

/-- HANGUP, REFUSE and ANSWER are placed at the head (06 R118). -/
def Order.atHead (o : Order) : Bool :=
  match o.kind with
  | .hangup | .refuse | .answer => true
  | .wake _ | .sleep | .scan | .attach .. | .detach | .dial _ | .sendData _ => false

/-- The orders a CALL_ENDED removes from the queue (06 R126). -/
def Order.forCall (o : Order) : Bool :=
  match o.kind with
  | .answer | .refuse | .hangup | .sendData _ => true
  | .wake _ | .sleep | .scan | .attach .. | .detach | .dial _ => false

/-- The submitter is the Campaign Controller. -/
def Order.ofCampaign (o : Order) : Bool :=
  match o.submitter with
  | .campaign _ => true
  | .survey _ | .host | .start | .port => false

/-- The campaign's order serves a current try, call, standby or resurvey, or a call still offered (06 R118). -/
def servesCurrent (c : Campaign) (call : CallState) (o : Order) : Bool :=
  match o.submitter with
  | .campaign (.attempt id) | .campaign (.call id) => c.attempt.any fun t => t.id == id
  | .campaign (.standby id) => c.standby.any fun b => b.id == id
  | .campaign (.resurvey id) => c.resurvey.any fun r => r.id == id
  | .campaign .offered => call == .offered
  | .survey _ | .host | .start | .port => true

/-! ## Sending (06 R119) -/

/-- Send an order on a port: it is in flight with its timeout, and the states change by its kind. -/
def sendOrder (p : Port) (o : Order) (s : State) : State :=
  let s1 := s.onPort p fun c => { c with inFlight := some ⟨o, orderTimeout o.kind⟩ }
  let unregister := fun s : State =>
    if (s.port p).queue.any Order.registers then s else setAttachment p .none s
  match o.kind with
  | .wake _ => unregister (s1.onPort p fun c => { c with power := .waking })
  | .sleep => unregister (s1.onPort p fun c => { c with power := .sleeping })
  | .dial _ => setCall p .dialing s1
  | .answer => setCall p .answering s1
  | .hangup => setCall p .clearing s1
  | .refuse => setCall p .clearing s1
  | .scan | .attach .. | .detach | .sendData _ => s1

/-- Send the order at the head of the queue when the port is ON with nothing in flight. -/
def sendNext (p : Port) (s : State) : State :=
  if (s.port p).power = .on ∧ (s.port p).inFlight = none then
    match (s.port p).queue with
    | [] => s
    | o :: rest => sendOrder p o (s.onPort p fun c => { c with queue := rest })
  else s

/-- Send a WAKE of the port's own (06 R117, R130, R133, R135). -/
def sendWake (p : Port) (reason : WakeReason) (s : State) : State := sendOrder p ⟨.wake reason, .port⟩ s

/-! ## The end of a SCAN of the Survey Timer (08 R157) -/

/-- Tell the Survey Timer a SCAN's end: the record follows when the tag is the present count and the record
is SUBMITTED; of two SCANs with one tag, the first to end settles it (log 40). -/
def surveyScanEnds (p : Port) (tag : Nat) (outcome : MatchRecord) (s : State) : State :=
  if tag = s.survey.periodEnds ∧ s.survey.records.get p = .submitted then
    s.onSurvey fun v => { v with records := v.records.put p outcome }
  else s

/-- Tell the submitters of dropped orders; only the Survey Timer takes note here (06 R118, R129, R136). -/
def tellDropped (p : Port) : List Order → State → State
  | [], s => s
  | o :: rest, s =>
    match o.submitter with
    | .survey tag => tellDropped p rest (surveyScanEnds p tag .dropped s)
    | .campaign _ | .host | .start | .port => tellDropped p rest s

/-! ## Taking an order (06 R116 to R118, R121) -/

/-- The port's answer to a submission (06 R116). -/
def answerFor (p : Port) (o : Order) (s : State) : SubmitAnswer :=
  if s.supply.halt || !(s.port p).power.usable then .unavailable
  else if (s.port p).queue.length < 4 || o.atHead then .accepted
  else .queueFull

/-- Where an order joins the queue: the tail, or behind the head-placed orders already there (06 R118). -/
def joinQueue (o : Order) (queue : List Order) : List Order :=
  if o.atHead then queue.takeWhile Order.atHead ++ o :: queue.dropWhile Order.atHead else queue ++ [o]

/-- Remove the newest order that meets a test; the removed order and the rest. -/
def removeNewest (test : Order → Bool) : List Order → Option (Order × List Order)
  | [] => none
  | o :: rest =>
    match removeNewest test rest with
    | some (x, kept) => some (x, o :: kept)
    | none => if test o then some (o, rest) else none

/-- The order a full queue gives up for a head-placed one: the newest not of the campaign, else the newest
that serves nothing current (06 R118; log 25). -/
def chooseRemoval (c : Campaign) (call : CallState) (queue : List Order) : Option (Order × List Order) :=
  match removeNewest (fun o => !o.ofCampaign) queue with
  | some r => some r
  | none =>
    match removeNewest (fun o => !servesCurrent c call o) queue with
    | some r => some r
    | none => removeNewest (fun _ => true) queue

/-- Make room in a full queue (06 R118). -/
def makeRoom (p : Port) (s : State) : State :=
  match chooseRemoval s.campaign (s.port p).call (s.port p).queue with
  | none => s
  | some (o, rest) =>
    let s1 := tellDropped p [o] (s.onPort p fun c => { c with queue := rest })
    if o.registers && !(rest.any Order.registers)
        && !((s.port p).inFlight.any fun f => f.order.registers) then setAttachment p .none s1
    else s1

/-- What an accepted registration order makes the attachment (06 R121). -/
def registering (p : Port) (o : Order) (s : State) : State :=
  match o.kind with
  | .attach entry net => setAttachment p (.attaching entry net) s
  | .detach => setAttachment p .detaching s
  | .wake _ | .sleep | .scan | .dial _ | .answer | .hangup | .refuse | .sendData _ => s

/-- Put an accepted order into the queue of a port that is not OFF; it is sent at once when nothing is in
flight or queued and the port is ON (06 R116, R118). -/
def placeOrder (p : Port) (o : Order) (s : State) : State :=
  let direct := (s.port p).inFlight.isNone && (s.port p).queue.isEmpty
  let s1 := registering p o (s.onPort p fun c => { c with queue := joinQueue o c.queue })
  if direct then sendNext p s1 else s1

/-- Take an accepted order: an OFF port sends a WAKE ahead of it (06 R117), a full queue makes room (R118). -/
def acceptOrder (p : Port) (o : Order) (s : State) : State :=
  if (s.port p).power = .off then placeOrder p o (sendWake p .demand s)
  else if (s.port p).queue.length < 4 then placeOrder p o s
  else placeOrder p o (makeRoom p s)

/-- Submit an order; a refusal leaves the port as it was (06 R116). -/
def submit (p : Port) (o : Order) (s : State) : State :=
  if answerFor p o s = .accepted then acceptOrder p o s else s

/-- Submit orders in turn until one is refused; whether all were accepted, and the state. -/
def submitAll (p : Port) : List Order → State → Bool × State
  | [], s => (true, s)
  | o :: rest, s =>
    if answerFor p o s = .accepted then submitAll p rest (acceptOrder p o s) else (false, s)

/-! ## Bringing a port to a network (03 R60, 04 R86) -/

/-- What the attachment of a port calls for before a network can be dialled over it. -/
inductive Approach where
  | ready
  | wait
  | submit (kinds : List OrderKind)
  deriving DecidableEq, Repr

/-- The table of R60, read by 04 R86 too. The port is ATTACHING the selected entry only where both the slot and
the network of the ATTACH are the entry's: an ATTACH whose entry has been freed since is one of another entry
(log 44). -/
def approach (a : Attachment) (slot : TableSlot) (net : NetworkId) : Approach :=
  match a with
  | .attached n => if n = net then .ready else .submit [.detach, .attach slot net]
  | .attaching e n => if e = slot ∧ n = net then .wait else .submit [.detach, .attach slot net]
  | .detaching => .submit [.attach slot net]
  | .none => .submit [.attach slot net]

/-- The order is the ATTACH of this slot and network. -/
def Order.attaches (o : Order) (slot : TableSlot) (net : NetworkId) : Bool := o.kind == .attach slot net

/-- Give the newest ATTACH of this slot and network in a queue to another purpose; none when there is none. -/
def retagQueue (slot : TableSlot) (net : NetworkId) (purpose : Purpose) : List Order → Option (List Order)
  | [] => none
  | o :: rest =>
    match retagQueue slot net purpose rest with
    | some r => some (o :: r)
    | none => if o.attaches slot net then some ({ o with submitter := .campaign purpose } :: rest) else none

/-- A try or standby that waits for an ATTACH already at its port takes that order over (03 R60; log 19). -/
def adoptAttach (p : Port) (slot : TableSlot) (net : NetworkId) (purpose : Purpose) (s : State) : State :=
  s.onPort p fun c =>
    match retagQueue slot net purpose c.queue with
    | some q => { c with queue := q }
    | none =>
      { c with inFlight := c.inFlight.map fun f =>
          if f.order.attaches slot net then { f with order := { f.order with submitter := .campaign purpose } }
          else f }

/-! ## Dropping everything (06 R129, R136, R137) -/

/-- Drop the in-flight order and the queue, telling the submitters. -/
def dropOrders (p : Port) (s : State) : State :=
  let orders := ((s.port p).inFlight.map InFlight.order).toList ++ (s.port p).queue
  tellDropped p orders (s.onPort p fun c => { c with inFlight := none, queue := [] })

/-- Steps 1 and 2 of an entry to FAULT, DEAD or DISABLED (06 R129, R137). -/
def portDown (p : Port) (s : State) : State := setAttachment p .none (setCall p .none (dropOrders p s))

/-- One port at the entry to HALT (06 R136; log 24). -/
def haltPort (p : Port) (s : State) : State :=
  match (s.port p).power with
  | .on | .waking => sendOrder p ⟨.sleep, .port⟩ (setCall p .none (dropOrders p s))
  | .sleeping =>
    setAttachment p .none
      (tellDropped p (s.port p).queue (s.onPort p fun c => { c with queue := [] }))
  | .off | .fault | .dead | .disabled => s

/-! ## Reports, policy, due tests (06 R134, R135, R140) -/

/-- Raise a PORT report with the common fields as they stand (06 R140). -/
def raisePort (kind : PortReportKind) (p : Port) (s : State) : State :=
  raise (.port kind p (s.port p).power (s.port p).attention (s.port p).restartCount) s

/-- The effective policy (06 R135). -/
def effectivePolicy (s : State) (p : Port) : Policy :=
  if s.supply.mode = .normal then s.cfg.policies.get p else .onDemand

/-- R130's test at a tick. -/
def restartTest (s : State) (p : Port) : Bool :=
  (s.port p).power == .fault && (s.port p).restartTimer == some 0
    && (s.supply.mode == .normal || s.supply.mode == .low) && !s.supply.halt

/-- R134's test at a tick. -/
def sleepTest (s : State) (p : Port) : Bool :=
  (s.port p).power == .on && (s.port p).inFlight.isNone && (s.port p).queue.isEmpty
    && (s.port p).call == .none && !inCampaignUse s p && effectivePolicy s p == .onDemand

/-- R135's test at a tick. -/
def wakeTest (s : State) (p : Port) : Bool :=
  (s.port p).power == .off && effectivePolicy s p == .keepWarm && !s.supply.halt

end Sys2Proof.Machine
end

