-- ==== Sys2Proof/Machine/Standby.lean ====
section
/-! DEFINITION. Seeking and preparing the standby (04 R85, R86). -/

namespace Sys2Proof.Machine

/-- The record's report for a status (04 R84). -/
def raiseStandby (b : Standby) (s : State) : State := raise (.standby (some b.status) b.entry b.port none) s

/-- Create the standby record with its id and report it. -/
def createStandby (entry : TableSlot) (port : Port) (status : StandbyStatus) (s : State) : State :=
  let b : Standby := ⟨s.serial, entry, port, status⟩
  raiseStandby b (s.bumpSerial.onCampaign fun c => { c with standby := some b })

/-- Prepare the standby on an entry that carries its hold already (04 R86). -/
def prepareStandby (slot : TableSlot) (e : Entry) (s : State) : State :=
  match approach (s.port e.port).attachment slot e.net with
  | .ready => createStandby slot e.port .ready s
  | .wait => adoptAttach e.port slot e.net (.standby s.serial) (createStandby slot e.port .preparing s)
  | .submit kinds =>
    let orders := kinds.map fun k => (⟨k, .campaign (.standby s.serial)⟩ : Order)
    let r := submitAll e.port orders (createStandby slot e.port .preparing s)
    if r.1 then r.2 else clearStandby .attachFailed r.2

/-- When a standby is sought (04 R85). -/
def seeksStandby (s : State) : Bool :=
  s.campaign.state == .talk && s.campaign.standby.isNone && s.cfg.tuning.standbyEnable
    && s.supply.mode == .normal

/-- Seek a standby (04 R85): a candidate whose port has a call is given up with its hold. -/
def seekStandby (s : State) : State :=
  if seeksStandby s then
    match standbyCandidate s s.campaign.callPort with
    | none => s
    | some slot =>
      match s.table.entry slot with
      | none => s
      | some e =>
        if (s.port e.port).call = .none then prepareStandby slot e (grantHold .standby slot s) else s
  else s

/-- An ATTACH_RESULT for the standby's attachment (04 R86). -/
def standbyAttached (ok : Bool) (s : State) : State :=
  match s.campaign.standby with
  | none => s
  | some b =>
    if ok then
      let b1 := { b with status := .ready }
      raiseStandby b1 (s.onCampaign fun c => { c with standby := some b1 })
    else clearStandby .attachFailed s

end Sys2Proof.Machine
end

