-- ==== Sys2Proof/Machine/Campaign.lean ====
section
/-! DEFINITION. The campaign's chain: the plan walk, the try, recovery, the last resort, the resurvey, the
callback window and the end of a campaign (02, 03, 04), each as one link that hands on to the next inside
one event. -/

namespace Sys2Proof.Machine

/-! ## Small parts -/

/-- The try dials a destination: origins PLAN, RECOVERY and LAST_RESORT. -/
def TryOrigin.dialed : TryOrigin → Bool
  | .plan | .recovery | .lastResort => true
  | .callback | .incoming => false

/-- The more flag of a work step; none for a control step (02 R28). -/
def stepMore : PlanStep → Option Bool
  | .dial _ _ _ more => some more
  | .wait _ more => some more
  | .resurvey more => some more
  | .test _ | .goto _ | .invoke _ | .ret => none

/-- Whether a TEST's condition holds (02 R39). -/
def conditionHolds (s : State) : Condition → Bool
  | .noCandidate filter => (firstEligible s filter).isNone
  | .supplyLow => s.supply.mode != .normal
  | .afterLoss => s.campaign.afterLoss
  | .pressed => decide (1 ≤ s.campaign.presses)

/-- Change the current try. -/
def onTry (f : CurrentTry → CurrentTry) (s : State) : State :=
  s.onCampaign fun c => { c with attempt := c.attempt.map f }

/-- The plan walk is abandoned (02 R31): the stack is empty, no DIAL step or last-resort record stands and
the cursor is no longer used. -/
def abandonWalk (s : State) : State :=
  s.onCampaign fun c => { c with stack := [], dialStep := none, cursor := none, lastResort := none }

/-- Leave TALK (03 R66 step 2, R81): the CALL hold is withdrawn, call entry, call port and route are none. -/
def leaveTalk (s : State) : State :=
  let s1 := match s.campaign.callEntry with
    | some slot => withdrawHold .call slot s
    | none => s
  s1.onCampaign fun c => { c with callEntry := none, callPort := none, route := none }

/-! ## The links of the chain -/

/-- What the campaign does next inside the event. -/
inductive Go where
  /-- nothing more: the event's work is done -/
  | rest
  /-- the walk comes to a slot (02 R29) -/
  | walk (slot : PlanSlot)
  /-- the plan has ended or faulted (02 R31, R45): the last resort begins (04 R96) -/
  | planEnds
  /-- a try of the current DIAL step begins (02 R33) -/
  | beginTry
  /-- the SELECTING try selects (03 R59) -/
  | select
  /-- the current DIAL step has failed (02 R35) -/
  | stepFails
  /-- the current try ends (03 R66) -/
  | tryEnds (outcome : TryOutcome) (cause : Option Byte)
  /-- r has been increased and is compared with the limit (04 R89); with a standby handed over (R88) -/
  | recoveryCheck (handed : Option TableSlot)
  /-- a recovery try begins (04 R90) -/
  | recoveryTry (handed : Option TableSlot)
  /-- recovery fails (04 R94) -/
  | recoveryFails (handed : Option TableSlot)
  /-- the last-resort pass goes on at its position (04 R97) -/
  | pass
  /-- a resurvey begins (04 R101) -/
  | resurvey (use : ResurveyUse)
  /-- the resurvey completes (04 R103) -/
  | resurveyDone
  /-- the callback window opens after a try on a port (03 R79) -/
  | window (port : Option Port)
  /-- the campaign ends (03 R82) -/
  | ends (outcome : CampaignOutcome)
  deriving DecidableEq, Repr

/-! ### The walk (02) -/

/-- The walk's next link from a slot's successor: the slot after it, or the end of the plan. -/
def goSuccessor (slot : PlanSlot) (more : Bool) : Go := if more then .walk (slot + 1) else .planEnds

/-- Where a TEST that holds goes on: from the successor of the slot it skips (02 R38). -/
def goSkip (s : State) (skipped : PlanSlot) : Go :=
  match stepMore (s.cfg.steps.get skipped) with
  | some more => goSuccessor skipped more
  | none => .walk (skipped + 1)

/-- Note a plan fault (02 R45). -/
def notePlanFault (kind : PlanFaultKind) (slot : PlanSlot) (s : State) : State :=
  s.onCampaign fun c => { c with planFault := some ⟨kind, slot⟩ }

/-- A control step acts, its count taken (02 R30, R38 to R43). -/
def controlStep (slot : PlanSlot) (step : PlanStep) (s : State) : Go × State :=
  match step with
  | .test condition =>
    if conditionHolds s condition then (goSkip s (slot + 1), s) else (.walk (slot + 1), s)
  | .goto target => (.walk target, s)
  | .invoke target =>
    if s.campaign.stack.length < 4 then
      (.walk target, s.onCampaign fun c => { c with stack := c.stack ++ [slot + 1] })
    else (.planEnds, notePlanFault .stackFull slot s)
  | .ret =>
    match s.campaign.stack.getLast? with
    | some back => (.walk back, s.onCampaign fun c => { c with stack := c.stack.dropLast })
    | none => (.planEnds, s)
  | .dial .. | .wait .. | .resurvey .. => (.rest, s)

/-- The walk comes to a slot (02 R29, R30, R32, R36, R37). -/
def walkSlot (slot : PlanSlot) (s : State) : Go × State :=
  let step := s.cfg.steps.get slot
  let s1 := s.onCampaign fun c => { c with cursor := some slot }
  match step with
  | .dial destination filter tries _ =>
    (.beginTry, s1.onCampaign fun c => { c with
      controlCount := 0
      afterLoss := false
      dialStep := some ⟨slot, destination, filter, tries, [], false⟩ })
  | .wait seconds _ =>
    (.rest, s1.onCampaign fun c => { c with
      controlCount := 0
      waitTimer := some seconds
      state := .pause })
  | .resurvey _ => (.resurvey .step, s1.onCampaign fun c => { c with controlCount := 0 })
  | .test _ | .goto _ | .invoke _ | .ret =>
    let s2 := s1.onCampaign fun c => { c with controlCount := c.controlCount + 1 }
    if s2.campaign.controlCount < 32 then controlStep slot step s2
    else (.planEnds, notePlanFault .loop slot s2)

/-- The current DIAL step has failed (02 R35). -/
def failStep (s : State) : Go × State :=
  match s.campaign.dialStep with
  | none => (.rest, s)
  | some d =>
    (goSuccessor d.slot ((stepMore (s.cfg.steps.get d.slot)).getD false),
      s.onCampaign fun c => { c with dialStep := none })

/-! ### The try (03) -/

/-- Take an entry for the current try: its hold, number, network, port and score (03 R59). -/
def takeEntry (slot : TableSlot) (e : Entry) (s : State) : State :=
  let n := nextNumber s
  onTry (fun t => { t with
      number := some n, entry := some slot, net := some e.net, port := some e.port, score := some e.score })
    (useNumber (grantHold .attempt slot s))

/-- Submit the DIAL of the current try: DIALING, or PORT_FAILED at a refusal (03 R60, R61). -/
def dialTry (t : CurrentTry) (p : Port) (s : State) : Go × State :=
  let o : Order := ⟨.dial t.digits, .campaign (.attempt t.id)⟩
  if answerFor p o s = .accepted then
    (.rest, acceptOrder p o
      ((onTry (fun t => { t with stage := .dialing }) s).onCampaign fun c => { c with state := .dial }))
  else (.tryEnds .portFailed none, s)

/-- The try is PREPARING. -/
def preparing (s : State) : State :=
  (onTry (fun t => { t with stage := .preparing }) s).onCampaign fun c => { c with state := .prepare }

/-- Bring the try's port to its entry (03 R60). -/
def bringTry (s : State) : Go × State :=
  match s.campaign.attempt with
  | some t =>
    match t.entry, t.net, t.port with
    | some slot, some net, some p =>
      match approach (s.port p).attachment slot net with
      | .ready => dialTry t p s
      | .wait => (.rest, adoptAttach p slot net (.attempt t.id) (preparing s))
      | .submit kinds =>
        let orders := kinds.map fun k => (⟨k, .campaign (.attempt t.id)⟩ : Order)
        let r := submitAll p orders (preparing s)
        (if r.1 then .rest else .tryEnds .portFailed none, r.2)
    | _, _, _ => (.rest, s)
  | none => (.rest, s)

/-- Create a SELECTING try with what it read from the directory (03 R59, 02 R46). -/
def createTry (origin : TryOrigin) (slot : Option PlanSlot) (number : DestNumber) (s : State) : State :=
  let d := s.cfg.directory.get number
  let t : CurrentTry :=
    { id := s.serial, origin := origin, number := none, slot := slot, destination := some number
      digits := d.digits, dataFlag := d.dataFlag, entry := none, net := none, port := none, score := none
      stage := .selecting, release := none, talk := none, data := none, cause := none }
  s.bumpSerial.onCampaign fun c => { c with attempt := some t }

/-- The destination has digits to dial. -/
def hasDigits (s : State) (number : DestNumber) : Bool := !(s.cfg.directory.get number).digits.isEmpty

/-- A try of the current DIAL step begins (02 R33). -/
def beginStepTry (s : State) : Go × State :=
  match s.campaign.dialStep with
  | none => (.rest, s)
  | some d =>
    if hasDigits s d.destination then (.select, createTry .plan (some d.slot) d.destination s)
    else (.stepFails, writeStepRecord d .emptyDestination s)

/-- The SELECTING try of a DIAL step selects, or consults the no-candidate resurvey (03 R59, 02 R34). -/
def selectEntry (s : State) : Go × State :=
  match s.campaign.dialStep with
  | none => (.rest, s)
  | some d =>
    match firstEligible s d.filter with
    | some slot =>
      match s.table.entry slot with
      | some e => bringTry (takeEntry slot e s)
      | none => (.rest, s)
    | none =>
      if d.resurveyed then
        (.stepFails, (writeStepRecord d .noCandidate s).onCampaign fun c => { c with attempt := none })
      else
        (.resurvey .noCandidate,
          s.onCampaign fun c => { c with dialStep := some { d with resurveyed := true } })

/-- Steps 1 to 6 of R66: the try ends with its record written. -/
def endTry (outcome : TryOutcome) (cause : Option Byte) (s : State) : State :=
  match s.campaign.attempt with
  | none => s
  | some t =>
    let s1 := if s.campaign.state = .talk then leaveTalk s else s
    let s2 := s1.onCampaign fun c => { c with ringTimer := none }
    let s3 :=
      match t.entry with
      | some slot =>
        if t.origin.dialed then withdrawHold .attempt slot (tellOutcome slot outcome cause s2) else s2
      | none => s2
    let t1 := { t with
      cause := cause
      data := t.data.map fun d => if d = DataOutcome.pending then DataOutcome.failed else d }
    (writeRecord (t1.record outcome) s3).onCampaign fun c => { c with attempt := none }

/-- A failed try of the current DIAL step: excluded, one try fewer (02 R33). -/
def failStepTry (entry : Option TableSlot) (s : State) : Go × State :=
  match s.campaign.dialStep with
  | none => (.rest, s)
  | some d =>
    let d1 := { d with excluded := d.excluded ++ entry.toList, triesLeft := d.triesLeft - 1 }
    (if d1.triesLeft = 0 then .stepFails else .beginTry,
      s.onCampaign fun c => { c with dialStep := some d1 })

/-- r goes up by 1; it never exceeds 8 (04 R89; log 12). -/
def countLoss (s : State) : State := s.onCampaign fun c => { c with recoveries := countUp 8 c.recoveries }

/-- The standby at a loss that starts recovery: handed over when READY on an unbarred entry (04 R88). -/
def handOver (s : State) : Option TableSlot × State :=
  match s.campaign.standby with
  | none => (none, s)
  | some b =>
    if b.status = .ready ∧ ((s.table.entry b.entry).any fun e => e.preference != .bar) = true then
      (some b.entry, grantHold .attempt b.entry (clearStandby .callEnded s))
    else (none, clearStandby .callEnded s)

/-- A connected call to a destination is lost: recovery begins (03 R72, 04 R89). -/
def beginRecovery (t : CurrentTry) (s : State) : Go × State :=
  let h := handOver s
  (.recoveryCheck h.1,
    countLoss (h.2.onCampaign fun c => { c with
      recovery := some
        { destination := t.destination.getD 0, lostPort := t.port, lostNet := t.net
          toLastResort := c.phase == some .lastResort }
      phase := some .recovery }))

/-- What follows the end of a try (03 R66 step 7, R71, R72; 04 R93, R98). -/
def afterTry (t : CurrentTry) (outcome : TryOutcome) (s : State) : Go × State :=
  if s.campaign.cancelPending then (.ends .cancelled, s)
  else
    match outcome with
    | .aborted => (.ends .cancelled, s)
    | .endedByBox => (.ends .completed, s)
    | .cleared => (.window t.port, clearStandby .callEnded s)
    | .dropped =>
      if t.origin.dialed then beginRecovery t s else (.window t.port, clearStandby .callEnded s)
    | .attachFailed | .rejected | .busy | .noAnswer | .portFailed | .emptyDestination | .noCandidate =>
      match t.origin with
      | .plan => failStepTry t.entry s
      | .recovery => (.recoveryCheck none, countLoss s)
      | .lastResort => (.pass, s)
      | .callback | .incoming => (.window t.port, clearStandby .callEnded s)

/-- The current try ends and the campaign goes on (03 R66). -/
def finishTry (outcome : TryOutcome) (cause : Option Byte) (s : State) : Go × State :=
  match s.campaign.attempt with
  | none => (.rest, s)
  | some t => afterTry t outcome (endTry outcome cause s)

/-! ### Recovery (04 R89 to R94) -/

/-- Compare r with the recovery limit as it stands (04 R89). -/
def checkRecovery (handed : Option TableSlot) (s : State) : Go × State :=
  if s.cfg.tuning.recoveryLimit < s.campaign.recoveries then (.recoveryFails handed, s)
  else (.recoveryTry handed, s)

/-- The lost network's entry, looked up by identity, when it is eligible (04 R91). -/
def lostNetworkSlot (s : State) (r : Recovery) : Option TableSlot :=
  match r.lostPort, r.lostNet with
  | some p, some net =>
    match s.table.find p net with
    | some slot => if eligible s ClassSet.all slot then some slot else none
    | none => none
  | _, _ => none

/-- The entry of a recovery try: the standby, the lost network, the best eligible entry (04 R91). -/
def recoveryEntry (s : State) (r : Recovery) (handed : Option TableSlot) : Option TableSlot :=
  match handed with
  | some slot => some slot
  | none =>
    match lostNetworkSlot s r with
    | some slot => some slot
    | none => firstEligible s ClassSet.all

/-- A recovery try begins (04 R90, R91). -/
def beginRecoveryTry (handed : Option TableSlot) (s : State) : Go × State :=
  match s.campaign.recovery with
  | none => (.rest, s)
  | some r =>
    if hasDigits s r.destination then
      match recoveryEntry s r handed with
      | none => (.recoveryFails handed, s)
      | some slot =>
        match s.table.entry slot with
        | none => (.recoveryFails handed, s)
        | some e =>
          let step := if r.toLastResort then none else s.campaign.dialStep.map DialStep.slot
          bringTry (takeEntry slot e (createTry .recovery step r.destination s))
    else (.recoveryFails handed, s)

/-- Recovery fails (04 R94). -/
def failRecovery (handed : Option TableSlot) (s : State) : Go × State :=
  match s.campaign.recovery with
  | none => (.rest, s)
  | some r =>
    let s1 := match handed with
      | some slot => withdrawHold .attempt slot s
      | none => s
    (if r.toLastResort then .pass else .stepFails,
      s1.onCampaign fun c => { c with
        recovery := none
        afterLoss := true
        phase := some (if r.toLastResort then .lastResort else .plan) })

/-! ### The last resort (04 R96 to R99) -/

/-- The plan has ended: the campaign passes to the last resort (04 R96). -/
def beginLastResort (s : State) : Go × State :=
  let s1 := s.onCampaign fun c => { c with stack := [], dialStep := none, phase := some .lastResort }
  if hasDigits s1 0 then
    (.pass, s1.onCampaign fun c => { c with lastResort := some ⟨false, frozenSet s1, 0⟩ })
  else (.ends .failed, s1)

/-- The entry at a position is taken: a last-resort try over it (04 R98). -/
def lastResortTry (slot : TableSlot) (e : Entry) (s : State) : Go × State :=
  if hasDigits s 0 then bringTry (takeEntry slot e (createTry .lastResort none 0 s)) else (.ends .failed, s)

/-- The pass at its position (04 R97, R99). -/
def passPosition (s : State) : Go × State :=
  match s.campaign.lastResort with
  | none => (.rest, s)
  | some r =>
    match r.list[r.position]? with
    | some slot =>
      let s1 := s.onCampaign fun c => { c with lastResort := some { r with position := r.position + 1 } }
      match s1.table.entry slot with
      | some e => if inLastResortSet s1 slot then lastResortTry slot e s1 else (.pass, s1)
      | none => (.pass, s1)
    | none => if r.secondPass then (.ends .failed, s) else (.resurvey .lastResort, s)

/-! ### The resurvey (04 R101, R103) -/

/-- Whether a resurvey awaits a port (04 R101). -/
def surveyable (s : State) (p : Port) : Bool := (s.port p).power.usable && (s.port p).call == .none

/-- Stop awaiting a port. -/
def stopAwaiting (p : Port) (s : State) : State :=
  s.onCampaign fun c => { c with
    resurvey := c.resurvey.map fun r => { r with awaited := r.awaited.put p false } }

/-- Submit the resurvey's SCAN to an awaited port; a refusal stops awaiting it (04 R101). -/
def resurveyPort (id : Nat) (p : Port) (s : State) : State :=
  let o : Order := ⟨.scan, .campaign (.resurvey id)⟩
  if isAwaited s p then
    if answerFor p o s = .accepted then acceptOrder p o s else stopAwaiting p s
  else s

/-- Some port is still awaited. -/
def awaitsAny (s : State) : Bool := portList.any (isAwaited s)

/-- A resurvey begins (04 R101); with no port to await it completes at once. -/
def beginResurvey (use : ResurveyUse) (s : State) : Go × State :=
  let s1 := s.bumpSerial.onCampaign fun c => { c with
    resurvey := some ⟨s.serial, use, PerPort.build (surveyable s)⟩
    state := .resurvey }
  let s2 := eachPort (resurveyPort s.serial) portList s1
  (if awaitsAny s2 then .rest else .resurveyDone, s2)

/-- The walk goes on after the work step at the cursor (02 R36, R37). -/
def goAfterCursor (s : State) : Go :=
  match s.campaign.cursor with
  | some slot => goSuccessor slot ((stepMore (s.cfg.steps.get slot)).getD false)
  | none => .rest

/-- The resurvey completes; the event's STATE report follows whatever the state it passes to (04 R103). -/
def completeResurvey (s : State) : Go × State :=
  match s.campaign.resurvey with
  | none => (.rest, s)
  | some r =>
    let s1 := s.onCampaign fun c => { c with resurvey := none, resurveysDone := c.resurveysDone + 1 }
    match r.use with
    | .step => (goAfterCursor s1, s1)
    | .noCandidate => (.select, s1)
    | .lastResort => (.pass, s1.onCampaign fun c => { c with lastResort := some ⟨true, frozenSet s1, 0⟩ })

/-! ### The callback window and the end (03 R79, R82) -/

/-- The callback port after a try on a port, and its hold (03 R79). -/
def keepCallbackPort (port : Option Port) (s : State) : State :=
  match port with
  | none => s
  | some p =>
    match (s.port p).attachment with
    | .attached net =>
      let s1 := s.onCampaign fun c => { c with callbackPort := some p }
      match s1.table.find p net with
      | some slot => grantHold .callback slot s1
      | none => s1
    | .none | .attaching .. | .detaching => s

/-- The callback window opens, or the campaign ends COMPLETED (03 R79). -/
def openWindow (port : Option Port) (s : State) : Go × State :=
  let s1 := abandonWalk s
  if s1.cfg.tuning.callbackWindow = 0 ∨ s1.supply.mode = .cutoff then (.ends .completed, s1)
  else
    (.rest, keepCallbackPort port (s1.onCampaign fun c => { c with
      windowTimer := some s1.cfg.tuning.callbackWindow
      state := .callback }))

/-- The end of a campaign up to its summary (03 R82, 05 R111): the standby is cleared, the holds withdrawn,
the route none and the timers discarded. -/
def closeCampaign (outcome : CampaignOutcome) (s : State) : State :=
  writeSummary outcome
    ((withdrawAllHolds (clearStandby .callEnded s)).onCampaign fun c => { c with
      attempt := none, route := none, ringTimer := none, waitTimer := none, windowTimer := none
      outcome := some outcome })

/-- The context takes its IDLE values and the Supply Monitor is told (03 R53, R82; 09 R175). -/
def toIdle (s : State) : State :=
  (s.onCampaign fun _ => Campaign.inIdle).onSupply fun m => { m with idleNotices := m.idleNotices + 1 }

/-- The campaign ends: SUMMARY, then STATE with the outcome, then the IDLE values (03 R82; log 20). -/
def endCampaign (outcome : CampaignOutcome) (s : State) : State :=
  let s1 := closeCampaign outcome s
  toIdle (raise (.state .idle s1.campaign.phase s1.campaign.origin none none (some outcome)) s1)

/-! ## The chain -/

/-- One link: its work, and the link it hands on to. -/
def goStep : Go → State → Go × State
  | .rest, s => (.rest, s)
  | .walk slot, s => walkSlot slot s
  | .planEnds, s => beginLastResort s
  | .beginTry, s => beginStepTry s
  | .select, s => selectEntry s
  | .stepFails, s => failStep s
  | .tryEnds outcome cause, s => finishTry outcome cause s
  | .recoveryCheck handed, s => checkRecovery handed s
  | .recoveryTry handed, s => beginRecoveryTry handed s
  | .recoveryFails handed, s => failRecovery handed s
  | .pass, s => passPosition s
  | .resurvey use, s => beginResurvey use s
  | .resurveyDone, s => completeResurvey s
  | .window port, s => openWindow port s
  | .ends outcome, s => (.rest, endCampaign outcome s)

/-- Run the links until one rests; none when they are more than the bound. -/
def runGo : Nat → Go → State → Option State
  | 0, _, _ => none
  | n + 1, g, s =>
    match g with
    | .rest => some s
    | g => runGo n (goStep g s).1 (goStep g s).2

/-- The bound on one event's links, which only a chain that never ends exceeds (log 11). -/
def chainBound : Nat := 18446744073709551616

/-- Run the chain from a link and raise the STATE report of what changed since the key (03 R54). -/
def runChain (key : StateKey) (g : Go) (s : State) : Option State :=
  (runGo chainBound g s).map (reportChange key)

end Sys2Proof.Machine
end

