-- ==== Sys2Proof/Machine/CampaignEvents.lean ====
section
/-! DEFINITION. What the Campaign Controller does with the records other blocks hand it: starts, END_CALL,
timers, call progress, call ends, registrations, incoming calls, port losses, modes (03, 04). -/

namespace Sys2Proof.Machine

/-! ## Starts (03 R56 to R58) -/

/-- The state allows a start: IDLE or CALLBACK, and not CUTOFF or HALT (03 R56, R57). -/
def canStart (s : State) : Bool :=
  (s.campaign.state == .idle || s.campaign.state == .callback)
    && s.supply.mode != .cutoff && !s.supply.halt

/-- Step 1 of R58: an open callback window ends with its campaign COMPLETED. -/
def closeOldWindow (s : State) : State :=
  if s.campaign.state = .callback then toIdle (closeCampaign .completed s) else s

/-- Steps 2 to 5 of R58, with the phase and cursor given; INCOMING has neither (03 R76). -/
def freshCampaign (origin : CampaignOrigin) (phase : Option Phase) (cursor : Option PlanSlot) (s : State) :
    State :=
  raise (.started origin)
    ((clearLog s).onCampaign fun _ =>
      { Campaign.inIdle with origin := some origin, phase := phase, cursor := cursor })

/-- The start of a campaign of origin BUTTON or HOST (03 R58). -/
def startCampaign (origin : CampaignOrigin) (s : State) : Option State :=
  let entry := s.cfg.tuning.entrySlot
  runChain (stateKey s.campaign) (.walk entry) (freshCampaign origin (some .plan) (some entry) (closeOldWindow s))

/-- A press (03 R56). -/
def takePress (s : State) : Option State :=
  if canStart s then startCampaign .button s
  else
    let active := s.campaign.active && s.campaign.state != .callback
    let s1 := if active then
        s.onCampaign fun c => { c with presses := countUp 255 c.presses }
      else s
    some (raise (.press s1.campaign.presses s1.campaign.state s1.campaign.active) s1)

/-! ## Releases (03 R63, R73) -/

/-- HANGUP to the try's port at the head of its queue, the try RELEASING, the campaign RELEASE. -/
def releaseTry (reason : ReleaseReason) (s : State) : State :=
  match s.campaign.attempt with
  | none => s
  | some t =>
    match t.port with
    | none => s
    | some p =>
      submit p ⟨.hangup, .campaign (.call t.id)⟩
        ((onTry (fun t => { t with stage := .releasing, release := some reason }) s).onCampaign fun c =>
          { c with state := .release, ringTimer := none })

/-- The ring timer's expiry (03 R63). -/
def ringExpires (s : State) : State :=
  reportChange (stateKey s.campaign) (releaseTry .ringTimeout s)

/-- The reply code of END_CALL (03 R73). -/
def endCallCode (s : State) : ReplyCode := if s.campaign.state = .idle then .notActive else .ok

/-- What END_CALL does by the campaign state (03 R73). -/
def takeEndCall (s : State) : State :=
  match s.campaign.state with
  | .idle => s
  | .prepare => s.onCampaign fun c => { c with cancelPending := true }
  | .dial | .ring => reportChange (stateKey s.campaign) (releaseTry (.endCall false) s)
  | .talk =>
    reportChange (stateKey s.campaign)
      (clearStandby .callEnded (leaveTalk (releaseTry (.endCall true) s)))
  | .pause | .resurvey => endCampaign .cancelled s
  | .release =>
    if s.campaign.attempt.any fun t => t.release == some .ringTimeout then
      s.onCampaign fun c => { c with cancelPending := true }
    else s
  | .callback => endCampaign .completed s

/-! ## Timers (02 R36, 03 R80) -/

/-- The wait expires and the walk goes on (02 R36). -/
def waitExpires (s : State) : Option State :=
  runChain (stateKey s.campaign) (goAfterCursor s) (s.onCampaign fun c => { c with waitTimer := none })

/-- The callback window expires (03 R80). -/
def windowExpires (s : State) : State := endCampaign .completed s

/-! ## Call progress (03 R62, R68, R78) -/

/-- The current try is on the port and in one of the stages. -/
def tryOn (s : State) (p : Port) (stages : List TryStage) : Bool :=
  s.campaign.attempt.any fun t => t.port == some p && stages.contains t.stage

/-- CALL_PROGRESS of ALERTING (03 R62). -/
def tryAlerting (p : Port) (s : State) : State :=
  if tryOn s p [.dialing] then
    reportState ((onTry (fun t => { t with stage := .ringing }) s).onCampaign fun c =>
      { c with state := .ring, ringTimer := some s.cfg.tuning.ringTimeout })
  else s

/-- The data message as built at CONNECTED (03 R69); an absent last value is carried as 0 (09 R166). -/
def dataMessage (t : CurrentTry) (s : State) : DataMessage where
  identity := s.cfg.box.identity
  location := s.cfg.box.location
  battery := s.supply.last.getD 0
  number := t.number.getD 0
  recoveries := s.campaign.recoveries

/-- Submit the data message of a connected try with its data flag set (03 R69, R70). -/
def sendDataOf (t : CurrentTry) (p : Port) (s : State) : State :=
  if t.dataFlag then
    let o : Order := ⟨.sendData (dataMessage t s), .campaign (.call t.id)⟩
    if answerFor p o s = .accepted then
      acceptOrder p o (onTry (fun t => { t with data := some .pending }) s)
    else onTry (fun t => { t with data := some .failed }) s
  else s

/-- A recovery try connects: the phase returns and the record becomes absent (04 R92). -/
def endRecovery (s : State) : State :=
  match s.campaign.recovery with
  | none => s
  | some r =>
    s.onCampaign fun c => { c with
      recovery := none
      phase := some (if r.toLastResort then .lastResort else .plan) }

/-- The route a CONNECTED gives: the port, while its call state is CONNECTED; a CONNECTED passed on in
CLEARING (06 R122) leaves it none (03 R81; log 38). -/
def connectedRoute (p : Port) (s : State) : Option Port := if (s.port p).call = .connected then some p else none

/-- Steps 1 to 5 of R68 for a dialled try over an entry. -/
def connectTry (slot : TableSlot) (p : Port) (s : State) : State :=
  let s1 := onTry (fun t => { t with stage := .connected, talk := some 0 }) s
  let s2 := grantHold .call slot (tellConnected slot s1)
  endRecovery (s2.onCampaign fun c => { c with
    ringTimer := none, callEntry := some slot, callPort := some p, state := .talk, route := connectedRoute p s })

/-- CALL_PROGRESS of CONNECTED (03 R68, R78); passed on in CLEARING it moves a DIALING try too (log 38). -/
def tryConnected (p : Port) (s : State) : State :=
  match s.campaign.attempt with
  | none => s
  | some t =>
    if tryOn s p [.dialing, .ringing] then
      match t.entry with
      | none => s
      | some slot =>
        seekStandby (sendDataOf t p (reportChange (stateKey s.campaign) (connectTry slot p s)))
    else if tryOn s p [.answering] then
      reportChange (stateKey s.campaign)
        ((onTry (fun t => { t with stage := .connected, talk := some 0 }) s).onCampaign fun c =>
          { c with route := connectedRoute p s })
    else s

/-! ## The end of a call (03 R64, R65) -/

/-- A call's outcome before connect (03 R64). -/
def beforeConnect : EndCause → TryOutcome
  | .farClear => .noAnswer
  | .netDrop => .rejected
  | .rejected => .rejected
  | .busy => .busy
  | .noAnswer => .noAnswer
  | .localClear => .rejected

/-- A release's outcome (03 R64). -/
def releaseOutcome : Option ReleaseReason → TryOutcome
  | some (.endCall true) => .endedByBox
  | some (.endCall false) => .aborted
  | some .ringTimeout | none => .noAnswer

/-- The outcome a CALL_ENDED gives the try by its stage; none in a stage that no call end reaches (03 R64). -/
def endedOutcome (t : CurrentTry) (cause : EndCause) : Option TryOutcome :=
  match t.stage with
  | .selecting | .preparing => none
  | .dialing | .ringing => some (beforeConnect cause)
  | .answering => some .cleared
  | .connected => some (if cause = .farClear then .cleared else .dropped)
  | .releasing => some (releaseOutcome t.release)

/-- The outcome the loss of the try's port gives it (03 R65, R74). -/
def lostOutcome (s : State) (t : CurrentTry) : Option TryOutcome :=
  match t.stage with
  | .selecting => none
  | .preparing => some (if s.campaign.cancelPending then .aborted else .portFailed)
  | .dialing | .ringing | .answering => some .portFailed
  | .connected => some .dropped
  | .releasing =>
    match t.release with
    | some (.endCall true) => some .endedByBox
    | some (.endCall false) => some .aborted
    | some .ringTimeout | none => some .portFailed

/-- A CALL_ENDED reaches the current try (03 R64). -/
def tryCallEnded (cause : EndCause) (moduleCause : Byte) (s : State) : Option State :=
  match s.campaign.attempt with
  | none => some s
  | some t =>
    match endedOutcome t cause with
    | none => some s
    | some outcome => runChain (stateKey s.campaign) (.tryEnds outcome (some moduleCause)) s

/-! ## Registrations (03 R61, R74; 04 R86) -/

/-- An ATTACH_RESULT for the PREPARING try's attachment (03 R61, R74). -/
def tryAttached (ok : Bool) (cause : Byte) (s : State) : Option State :=
  match s.campaign.attempt with
  | none => some s
  | some t =>
    match t.port with
    | none => some s
    | some p =>
      let key := stateKey s.campaign
      if s.campaign.cancelPending then
        runChain key (.tryEnds .aborted (if ok then none else some cause)) s
      else if ok then
        let r := dialTry t p s
        runChain key r.1 r.2
      else runChain key (.tryEnds .attachFailed (some cause)) s

/-- An ATTACH_RESULT goes to what its order serves (06 R120; log 18). -/
def takeAttached (purpose : Purpose) (ok : Bool) (cause : Byte) (s : State) : Option State :=
  match purpose with
  | .attempt id =>
    if s.campaign.attempt.any fun t => t.id == id && t.stage == .preparing then tryAttached ok cause s
    else some s
  | .standby id =>
    some (if s.campaign.standby.any fun b => b.id == id then standbyAttached ok s else s)
  | .call _ | .offered | .resurvey _ => some s

/-- A DATA_RESULT for the call of a try (03 R70). -/
def takeDataResult (id : Nat) (sent : Bool) (s : State) : State :=
  onTry (fun t =>
    if t.id = id ∧ t.data = some .pending then
      { t with data := some (if sent then .sent else .failed) }
    else t) s

/-! ## Incoming calls (03 R75 to R77) -/

/-- Whether an offered call is answered (03 R75). -/
def answersIncoming (s : State) : Bool :=
  match s.campaign.state with
  | .idle => s.cfg.tuning.answerInIdle && s.supply.mode != .cutoff
  | .callback => true
  | .prepare | .dial | .ring | .talk | .pause | .resurvey | .release => false

/-- The entry of a port's attachment, when one is non-FREE (03 R76). -/
def attachedSlot (s : State) (p : Port) : Option TableSlot :=
  match (s.port p).attachment with
  | .attached net => s.table.find p net
  | .none | .attaching .. | .detaching => none

/-- The try of an answered call, with its number and call entry; the campaign enters TALK (03 R76, R77). -/
def answerTry (origin : TryOrigin) (id : Nat) (p : Port) (s : State) : State :=
  let slot := attachedSlot s p
  let e := slot.bind s.table.entry
  let t : CurrentTry :=
    { id := id, origin := origin, number := some (nextNumber s), slot := none, destination := none, digits := []
      dataFlag := false, entry := slot, net := e.map Entry.net, port := some p, score := e.map Entry.score
      stage := .answering, release := none, talk := none, data := none, cause := none }
  let s1 := (useNumber s).onCampaign fun c => { c with
    attempt := some t, callEntry := slot, callPort := some p, state := .talk, route := none }
  match slot with
  | some x => grantHold .call x s1
  | none => s1

/-- Step 2 of an answer: the campaign of origin INCOMING, or the end of the window, with which the callback
port becomes absent (03 R76, R77; log 43). -/
def answerContext (s : State) : State :=
  if s.campaign.state = .callback then
    withdrawEverywhere .callback
      (s.onCampaign fun c => { c with windowTimer := none, callbackPort := none })
  else freshCampaign .incoming none none s

/-- A call offered on a port is answered or refused (03 R75 to R77). -/
def takeOffer (p : Port) (digits : Option (List Byte)) (s : State) : State :=
  if answersIncoming s then
    let key := stateKey s.campaign
    let origin := if s.campaign.state = .callback then TryOrigin.callback else TryOrigin.incoming
    let s1 := raise (.incoming p digits true) (submit p ⟨.answer, .campaign (.call s.serial)⟩ s.bumpSerial)
    seekStandby (reportChange key (answerTry origin s.serial p (answerContext s1)))
  else raise (.incoming p digits false) (submit p ⟨.refuse, .campaign .offered⟩ s)

/-! ## Scans, losses, modes (04 R87, R102; 03 R65, R83) -/

/-- A port leaves the awaited set of a resurvey; an empty set completes it (04 R102, R103). -/
def leaveAwaited (p : Port) (s : State) : Option State :=
  if isAwaited s p then
    let s1 := stopAwaiting p s
    if awaitsAny s1 then some s1 else runChain (stateKey s.campaign) .resurveyDone s1
  else some s

/-- The resurvey's own SCAN on a port has completed (04 R102). -/
def resurveyScanned (id : Nat) (p : Port) (s : State) : Option State :=
  if s.campaign.resurvey.any fun r => r.id == id then leaveAwaited p s else some s

/-- The try on a lost port ends (03 R65). -/
def endLostTry (p : Port) (s : State) : Option State :=
  match s.campaign.attempt with
  | none => some s
  | some t =>
    if t.port = some p then
      match lostOutcome s t with
      | none => some s
      | some outcome => runChain (stateKey s.campaign) (.tryEnds outcome none) s
    else some s

/-- The Campaign Controller is told that a port is lost (06 R129 step 4). -/
def campaignPortLost (p : Port) (s : State) : Option State :=
  (endLostTry p s).bind fun s1 =>
    let s2 := if isStandbyPort s1 p then clearStandby .portLost s1 else s1
    leaveAwaited p (dropCallbackPort p s2)

/-- The Campaign Controller takes a new supply mode (03 R83, 04 R87). -/
def takeMode (s : State) : State :=
  let s1 := if s.supply.mode = .normal then s else clearStandby .supply s
  if s1.supply.mode = .cutoff ∧ s1.campaign.state = .callback then endCampaign .completed s1 else s1

end Sys2Proof.Machine
end

