-- ==== Sys2Proof/Machine/Scans.lean ====
section
/-! DEFINITION. A SCAN_RESULT at the Network Table in its three passes (01 R10), and a SERVING_LEVEL's
sample (01 R11). -/

namespace Sys2Proof.Machine

/-- Apply a sample to the entry for its network on a port, where there is one. -/
def sampleNetwork (p : Port) (m : Sample) (s : State) : State :=
  match s.table.find p m.net with
  | some slot => sampleSlot slot m s
  | none => s

/-- The first pass: each listed network that has an entry on the port (01 R10). -/
def samplePass (p : Port) : List Sample → State → State
  | [], s => s
  | m :: rest, s => samplePass p rest (sampleNetwork p m s)

/-- The second pass: the first listing of a network records it, a further one samples it (01 R10). A further
listing whose new entry this pass has evicted again is passed over (log 36). -/
def recordPass (p : Port) : List NetworkId → List Sample → State → State
  | _, [], s => s
  | done, m :: rest, s =>
    if done.contains m.net then recordPass p done rest (sampleNetwork p m s)
    else recordPass p (m.net :: done) rest (recordNew p m s)

/-- The third pass: SEEN entries of the port that were not listed become LOST, in slot order (log 14). -/
def losePass (p : Port) (networks : List Sample) (s : State) : State :=
  eachSlot loseAndTell
    (s.table.slotsWhere fun e =>
      e.state == .seen && e.port == p && !(networks.map Sample.net).contains e.net) s

/-- Apply a SCAN_RESULT of a port to the table (01 R10). -/
def applyScan (p : Port) (networks : List Sample) (s : State) : State :=
  let known := networks.filter fun m => (s.table.find p m.net).isSome
  let new := networks.filter fun m => (s.table.find p m.net).isNone
  losePass p networks (recordPass p [] new (samplePass p known s))

/-- A SERVING_LEVEL taken on a port samples the call entry when the port is the call port (01 R11). -/
def applyServing (p : Port) (level quality : Byte) (s : State) : State :=
  match s.campaign.callEntry with
  | none => s
  | some slot =>
    if s.campaign.callPort = some p then
      match s.table.entry slot with
      | some e => sampleSlot slot (sampleOf e.net level quality) s
      | none => s
    else s

end Sys2Proof.Machine
end

