-- ==== Sys2Proof/Machine/PortEvents.lean ====
section
/-! DEFINITION. The Radio Port Controllers' events: notices taken by the tests of 06 R125, completions
(R120 to R122), unasked notices (R126 to R128), entries to FAULT and DEAD (R129, R132), sleep (R133). -/

namespace Sys2Proof.Machine

/-- A notice as 07 R143 and R144 read it. -/
inductive Notice where
  | wakeDone
  | sleepDone
  | scanResult (networks : List Sample)
  | attachResult (ok : Bool) (cause : Byte)
  | detachDone
  | alerting
  | connected
  | callEnded (cause : EndCause) (moduleCause : Byte)
  | incoming (digits : Option (List Byte))
  | servingLevel (level quality : Byte)
  | dataResult (sent : Bool)
  | alertFault
  | alertRegistrationLost
  deriving DecidableEq, Repr

/-! ## FAULT, DEAD and sleep -/

/-- The entry to FAULT or DEAD (06 R129). -/
def enterFault (p : Port) (dead : Bool) (cause : FaultCause) (s : State) : Option State :=
  let s1 := s.onPort p fun c => { c with power := if dead then .dead else .fault, tickDue := false }
  (campaignPortLost p (losePort p (portDown p s1))).map fun s2 =>
    raisePort (if dead then .dead cause else .fault cause) p
      (s2.onPort p fun c => { c with
        attention := { c.attention with moduleFault := true }
        restartTimer := if dead then none else some 30 })

/-- A WAKE times out: the restart count goes up, and at 3 the port is DEAD (06 R132). -/
def wakeTimesOut (p : Port) (s : State) : Option State :=
  let s1 := s.onPort p fun c => { c with restartCount := countUp 3 c.restartCount }
  enterFault p (decide (3 ≤ (s1.port p).restartCount)) .timeout s1

/-- The end of a SLEEP: OFF with an empty queue, else a WAKE ahead of the queue (06 R133). -/
def sleepEnds (p : Port) (s : State) : State :=
  let s1 := s.onPort p fun c => { c with inFlight := none }
  if (s1.port p).queue.isEmpty then s1.onPort p fun c => { c with power := .off }
  else sendWake p .demand s1

/-- A SLEEP times out (06 R133). -/
def sleepTimesOut (p : Port) (s : State) : State := raisePort .sleepUnanswered p (sleepEnds p s)

/-- A port to DISABLED by PORT_CONTROL (06 R137); one already DISABLED is left as it is. -/
def disablePort (p : Port) (s : State) : Option State :=
  if (s.port p).power = .disabled then some s
  else
    let s1 := (s.onConfig fun g => { g with enables := g.enables.put p false }).onPort p fun c =>
      { c with power := .disabled, restartTimer := none, tickDue := false }
    (campaignPortLost p (losePort p (portDown p s1))).map (raisePort .disabled p)

/-! ## Call states at notices (06 R122) -/

/-- The call state after CALL_PROGRESS of ALERTING; none where it is discarded. -/
def callAtAlerting : CallState → Option CallState
  | .dialing | .alerting => some .alerting
  | .clearing => some .clearing
  | .none | .connected | .offered | .answering => none

/-- The call state after CALL_PROGRESS of CONNECTED; none where it is discarded. -/
def callAtConnected : CallState → Option CallState
  | .dialing | .alerting | .answering => some .connected
  | .clearing => some .clearing
  | .none | .connected | .offered => none

/-! ## Completions (06 R120, R121) -/

/-- The completing kinds of the table of R120. -/
def completes : OrderKind → Notice → Bool
  | .wake _, .wakeDone => true
  | .sleep, .sleepDone => true
  | .scan, .scanResult _ => true
  | .attach .., .attachResult .. => true
  | .detach, .detachDone => true
  | .dial _, .alerting => true
  | .dial _, .connected => true
  | .dial _, .callEnded .. => true
  | .answer, .connected => true
  | .answer, .callEnded .. => true
  | .hangup, .callEnded .. => true
  | .refuse, .callEnded .. => true
  | .sendData _, .dataResult _ => true
  | .sendData _, .callEnded .. => true
  | _, _ => false

/-- The order serves the current try (06 R120; log 16). -/
def servesTry (s : State) (o : Order) : Bool :=
  match o.submitter with
  | .campaign (.attempt id) | .campaign (.call id) => s.campaign.attempt.any fun t => t.id == id
  | .campaign (.standby _) | .campaign (.resurvey _) | .campaign .offered | .survey _ | .host | .start
  | .port => false

/-- The attachment an answer to a registration order gives, when no other stands queued (06 R121). -/
def attachmentAfter (p : Port) (a : Attachment) (s : State) : State :=
  if (s.port p).queue.any Order.registers then s else setAttachment p a s

/-- WAKE_DONE: ON, restart count 0, and RESTARTED for a restart (06 R120). -/
def wakeCompleted (p : Port) (kind : OrderKind) (s : State) : State :=
  let s1 := s.onPort p fun c => { c with power := .on, restartCount := 0 }
  if kind = .wake .restart then
    raisePort .restarted p
      (s1.onPort p fun c => { c with attention := { c.attention with restarted := true } })
  else s1

/-- A SCAN_RESULT completes a SCAN: applied, then its submitter is told (06 R120). -/
def scanCompleted (p : Port) (o : Order) (networks : List Sample) (s : State) : Option State :=
  let s1 := applyScan p networks s
  match o.submitter with
  | .survey tag => some (surveyScanEnds p tag .completed s1)
  | .campaign (.resurvey id) => resurveyScanned id p s1
  | .campaign (.attempt _) | .campaign (.standby _) | .campaign (.call _) | .campaign .offered | .host
  | .start | .port => some s1

/-- An ATTACH_RESULT completes an ATTACH (06 R121). -/
def attachCompleted (p : Port) (o : Order) (ok : Bool) (cause : Byte) (s : State) : Option State :=
  match o.kind with
  | .attach _ net =>
    let s1 := attachmentAfter p (if ok then .attached net else .none) s
    match o.submitter with
    | .campaign purpose => takeAttached purpose ok cause s1
    | .survey _ | .host | .start | .port => some s1
  | .wake _ | .sleep | .scan | .detach | .dial _ | .answer | .hangup | .refuse | .sendData _ => some s

/-- The orders of an ended call leave the queue (06 R126). -/
def clearCallOrders (p : Port) (s : State) : State :=
  s.onPort p fun c => { c with queue := c.queue.filter fun o => !o.forCall }

/-- Whether the end of a port's call, its state having been as given, ends the current try: a call still OFFERED
is the try's only when the try answers it or releases it (03 R64, 06 R126; log 16). -/
def endsTry (s : State) (p : Port) (call : CallState) : Bool :=
  if call = .offered then tryOn s p [.answering, .releasing]
  else tryOn s p [.dialing, .ringing, .connected, .answering, .releasing]

/-- Whether a CALL_ENDED that completes an order ends the current try, the port's call state having been as
given: the try is the one the order was submitted for, or the order is a SEND_DATA, which carries no call of its
own, and the call that ends is the try's, whosever the SEND_DATA was (03 R64, 06 R126; log 16). -/
def completionEndsTry (s : State) (p : Port) (o : Order) (call : CallState) : Bool :=
  servesTry s o ||
    match o.kind with
    | .sendData _ => call != .none && endsTry s p call
    | .wake _ | .sleep | .scan | .attach .. | .detach | .dial _ | .answer | .hangup | .refuse => false

/-- A CALL_ENDED completes an order; with SEND_DATA the queue is cleared too (06 R122, R126; log 17). Where it
ends no try, a route that it takes away is reported all the same (03 R54, R81). -/
def callEndCompleted (p : Port) (o : Order) (cause : EndCause) (moduleCause : Byte) (s : State) :
    Option State :=
  let s1 := setCall p .none s
  let s2 := match o.kind with
    | .sendData _ => clearCallOrders p s1
    | .wake _ | .sleep | .scan | .attach .. | .detach | .dial _ | .answer | .hangup | .refuse => s1
  if completionEndsTry s2 p o (s.port p).call then tryCallEnded cause moduleCause s2
  else some (reportChange (stateKey s.campaign) s2)

/-- The id of the call a SEND_DATA was submitted for. -/
def callIdOf (o : Order) : Option Nat :=
  match o.submitter with
  | .campaign (.call id) => some id
  | .campaign (.attempt _) | .campaign (.standby _) | .campaign (.resurvey _) | .campaign .offered
  | .survey _ | .host | .start | .port => none

/-- What a completing notice does, the in-flight order being absent already (06 R120). -/
def completion (p : Port) (o : Order) (n : Notice) (s : State) : Option State :=
  match n with
  | .wakeDone => some (wakeCompleted p o.kind s)
  | .sleepDone => some (sleepEnds p s)
  | .scanResult networks => scanCompleted p o networks s
  | .attachResult ok cause => attachCompleted p o ok cause s
  | .detachDone => some (attachmentAfter p .none s)
  | .alerting =>
    let s1 := setCall p ((callAtAlerting (s.port p).call).getD (s.port p).call) s
    some (if servesTry s1 o then tryAlerting p s1 else s1)
  | .connected =>
    let s1 := setCall p ((callAtConnected (s.port p).call).getD (s.port p).call) s
    some (if servesTry s1 o then tryConnected p s1 else s1)
  | .callEnded cause moduleCause => callEndCompleted p o cause moduleCause s
  | .dataResult sent =>
    some (match callIdOf o with
      | some id => takeDataResult id sent s
      | none => s)
  | .incoming _ | .servingLevel .. | .alertFault | .alertRegistrationLost => some s

/-- The next queued order is sent; where that takes the call port out of CONNECTED, the route's change is
reported (06 R119, 03 R54, R81; log 20). -/
def sendFollowing (p : Port) (s : State) : State := reportChange (stateKey s.campaign) (sendNext p s)

/-- A notice completes the order in flight; the next queued order is then sent (06 R120, R119). -/
def completeOrder (p : Port) (o : Order) (n : Notice) (s : State) : Option State :=
  (completion p o n (s.onPort p fun c => { c with inFlight := none })).map (sendFollowing p)

/-! ## Notices that complete nothing (06 R125 to R128) -/

/-- A CALL_ENDED that completes no order (06 R126). The ended call's orders leave the queue before the
Campaign Controller takes the notice (log 39). Where it ends no try, a route that it takes away is reported all
the same (03 R54, R81). -/
def unaskedCallEnded (p : Port) (cause : EndCause) (moduleCause : Byte) (s : State) : Option State :=
  let call := (s.port p).call
  if call = .none then some s
  else
    let s1 := clearCallOrders p (setCall p .none s)
    if endsTry s1 p call then tryCallEnded cause moduleCause s1
    else some (reportChange (stateKey s.campaign) s1)

/-- An INCOMING (06 R127). -/
def unaskedIncoming (p : Port) (digits : Option (List Byte)) (s : State) : State :=
  if (s.port p).power = .on ∧ (s.port p).call = .none then
    let s1 := raisePort (.attention (.incoming digits.isSome)) p
      (s.onPort p fun c => { c with
        call := .offered
        attention := { c.attention with incoming := true } })
    takeOffer p digits (if isStandbyPort s1 p then clearStandby .portCall s1 else s1)
  else s

/-- A SERVING_LEVEL (06 R124). -/
def unaskedServing (p : Port) (level quality : Byte) (s : State) : State :=
  if (s.port p).call = .connected then
    applyServing p level quality (s.onPort p fun c => { c with silenceTimer := some 35 })
  else s

/-- The slot of the entry a REGISTRATION_LOST names (01 R4, 06 R128): on an ATTACHING port, the entry of the
ATTACH's operator and class, whatever its slot now (log 37). -/
def namedByAlert (s : State) (p : Port) : Option TableSlot :=
  match (s.port p).attachment with
  | .attached net => s.table.find p net
  | .attaching _ net => s.table.find p net
  | .none | .detaching => none

/-- A MODULE_ALERT of kind REGISTRATION_LOST (06 R128). -/
def registrationLost (p : Port) (s : State) : State :=
  let s1 := match namedByAlert s p with
    | some slot => loseAndTell slot s
    | none => s
  raisePort (.attention .registrationLost) p
    ((attachmentAfter p .none s1).onPort p fun c =>
      { c with attention := { c.attention with registrationLost := true } })

/-- Tests 5 and 6 of R125. -/
def unaskedNotice (p : Port) (n : Notice) (s : State) : Option State :=
  match n with
  | .callEnded cause moduleCause => unaskedCallEnded p cause moduleCause s
  | .alerting =>
    match callAtAlerting (s.port p).call with
    | some c => some (tryAlerting p (setCall p c s))
    | none => some s
  | .connected =>
    match callAtConnected (s.port p).call with
    | some c => some (tryConnected p (setCall p c s))
    | none => some s
  | .incoming digits => some (unaskedIncoming p digits s)
  | .servingLevel level quality => some (unaskedServing p level quality s)
  | .alertFault => enterFault p false .moduleFault s
  | .alertRegistrationLost => some (registrationLost p s)
  | .wakeDone | .sleepDone | .scanResult _ | .attachResult .. | .detachDone | .dataResult _ => some s

/-- The power states in which a notice is read at all (06 R125, test 3). -/
def Power.listens : Power → Bool
  | .waking | .on | .sleeping => true
  | .fault | .dead | .disabled | .off => false

/-- Tests 3 to 6 of R125 on a notice that passed its reading. -/
def takeNotice (p : Port) (n : Notice) (s : State) : Option State :=
  if (s.port p).power.listens then
    match (s.port p).inFlight with
    | some f => if completes f.order.kind n then completeOrder p f.order n s else unaskedNotice p n s
    | none => unaskedNotice p n s
  else some s

/-! ## Timers of the ports -/

/-- A restart out of FAULT (06 R130). -/
def restartPort (p : Port) (s : State) : State :=
  sendWake p .restart (s.onPort p fun c => { c with restartTimer := none, tickDue := false })

/-- A SLEEP sent by the power policy (06 R134). -/
def policySleep (p : Port) (s : State) : State :=
  sendOrder p ⟨.sleep, .port⟩ (s.onPort p fun c => { c with tickDue := false })

/-- A WAKE sent by KEEP_WARM (06 R135). -/
def keepWarmWake (p : Port) (s : State) : State :=
  sendWake p .policy (s.onPort p fun c => { c with tickDue := false })

end Sys2Proof.Machine
end

