-- ==== Sys2Proof/Machine/Operands.lean ====
section
/-! DEFINITION. Operand forms of the lines: byte order, the receiver (10 R181), requests from and to their
payloads (10 R186, section 10.7) and notices from their fields (07 R143, R144). -/

namespace Sys2Proof.Machine

/-! ## Byte order (10 section 10.7: high byte first) -/

/-- A two-byte field from its bytes. -/
def wordOf (hi lo : Byte) : Word := hi ++ lo

/-- The bytes of a two-byte field. -/
def wordBytes (w : Word) : List Byte := [w.extractLsb' 8 8, w.extractLsb' 0 8]

/-- An operator code from its three bytes. -/
def code24Of (b2 b1 b0 : Byte) : Code24 := b2 ++ b1 ++ b0

/-- The three bytes of an operator code. -/
def code24Bytes (c : Code24) : List Byte := [c.extractLsb' 16 8, c.extractLsb' 8 8, c.extractLsb' 0 8]

/-- A number as one byte. -/
def byteOf (n : Nat) : Byte := BitVec.ofNat 8 n

/-- A number as two bytes. -/
def numberBytes (n : Nat) : List Byte := wordBytes (BitVec.ofNat 16 n)

/-- A flag or an on-off value (step 6). -/
def flagByte (b : Bool) : Byte := if b then 1 else 0

/-- A flag or presence byte read: 0 is clear, any other value set (log 22). -/
def byteSet (b : Byte) : Bool := b != 0

/-- A text or digits: a length byte and the characters (step 2). -/
def textBytes (t : List Byte) : List Byte := byteOf t.length :: t

/-- The four ports of a set byte (step 4). -/
def portSetOf (b : Byte) : PerPort Bool := ⟨b.getLsbD 0, b.getLsbD 1, b.getLsbD 2, b.getLsbD 3⟩

/-- A set of ports as a byte. -/
def portSetByte (v : PerPort Bool) : Byte :=
  flagBit v.p0 0 ||| flagBit v.p1 1 ||| flagBit v.p2 2 ||| flagBit v.p3 3

/-! ## The receiver (10 R181, 07 R141) -/

/-- What a byte makes of a line. -/
inductive Heard where
  | nothing
  | bad
  | good (frame : Frame)
  deriving DecidableEq, Repr

/-- The frame of a whole collected LEN, TYPE, PAYLOAD and CRC, when the check value agrees. -/
def checkedFrame (bytes : List Byte) : Heard :=
  let body := bytes.take (bytes.length - 2)
  match body, bytes.drop (bytes.length - 2) with
  | _ :: type :: payload, [hi, lo] => if crc16 body = wordOf hi lo then .good ⟨type, payload⟩ else .bad
  | _, _ => .bad

/-- The receiver takes one byte (10 R181). -/
def receiveByte (r : Receiver) (b : Byte) : Receiver × Heard :=
  match r with
  | .hunting => (if b = 0xA5 then .collecting [] else .hunting, .nothing)
  | .collecting [] => if b = 0 ∨ 200 < b.toNat then (.hunting, .bad) else (.collecting [b], .nothing)
  | .collecting (len :: rest) =>
    let bytes := len :: rest ++ [b]
    if bytes.length = len.toNat + 3 then (.hunting, checkedFrame bytes) else (.collecting bytes, .nothing)

/-! ## Requests (10 section 10.4) -/

/-- A request's payload as the unit reads it (10 R186). A READ_PLAN of an unknown selector is no short payload:
its owner refuses it (02 R52). -/
inductive Parsed where
  | unknown
  | badArgument
  | unknownPlan
  | request (r : Request)
  deriving DecidableEq, Repr

/-- A parsed request, or BAD_ARGUMENT where the payload is too short. -/
def parsedOr (r : Option Request) : Parsed :=
  match r with
  | some q => .request q
  | none => .badArgument

/-- One byte that may be absent, and the rest. -/
def optByte : List Byte → Option (Option Byte × List Byte)
  | present :: b :: rest => some (if byteSet present then some b else none, rest)
  | _ => none

/-- Two bytes that may be absent, and the rest. -/
def optWord : List Byte → Option (Option Word × List Byte)
  | present :: hi :: lo :: rest => some (if byteSet present then some (wordOf hi lo) else none, rest)
  | _ => none

/-- A text and the rest. -/
def takeText : List Byte → Option (List Byte × List Byte)
  | len :: rest =>
    if len.toNat ≤ rest.length then some (rest.take len.toNat, rest.drop len.toNat) else none
  | [] => none

/-- SET_TUNING's fields. -/
def parseTuning (b : List Byte) : Option Request := do
  let (floor, b) ← optWord b
  let (ringTimeout, b) ← optByte b
  let (callbackWindow, b) ← optWord b
  let (recoveryLimit, b) ← optByte b
  let (standbyEnable, b) ← optByte b
  let (answerInIdle, b) ← optByte b
  let (entrySlot, _) ← optByte b
  some (.setTuning
    ⟨floor, ringTimeout, callbackWindow, recoveryLimit, standbyEnable, answerInIdle, entrySlot⟩)

/-- SET_SUPPLY's fields. -/
def parseSupply (b : List Byte) : Option Request := do
  let (warn, b) ← optWord b
  let (shed, b) ← optWord b
  let (cutoff, _) ← optWord b
  some (.setSupply ⟨warn, shed, cutoff⟩)

/-- SET_SURVEY's fields. -/
def parseSurvey (b : List Byte) : Option Request := do
  let (period, b) ← optWord b
  match b with
  | cPresent :: a1 :: a0 :: b1 :: b0 :: c1 :: c0 :: d1 :: d0 :: pPresent :: e :: f :: g :: h :: _ =>
    some (.setSurvey
      { period := period
        compares := if byteSet cPresent then
          some ⟨wordOf a1 a0, wordOf b1 b0, wordOf c1 c0, wordOf d1 d0⟩ else none
        policies := if byteSet pPresent then some ⟨e, f, g, h⟩ else none })
  | _ => none

/-- As many 5-byte step records as counted. -/
def takeSteps : Nat → List Byte → Option (List StepBytes)
  | 0, _ => some []
  | n + 1, a :: m :: o :: f :: t :: rest => (takeSteps n rest).map (⟨a, m, o, f, t⟩ :: ·)
  | _ + 1, _ => none

/-- As many 4-byte preference records as counted. -/
def takePreferences : Nat → List Byte → Option (List PreferenceBytes)
  | 0, _ => some []
  | n + 1, b2 :: b1 :: b0 :: p :: rest => (takePreferences n rest).map (⟨code24Of b2 b1 b0, p⟩ :: ·)
  | _ + 1, _ => none

/-- LOAD_STEPS's fields. -/
def parseSteps : List Byte → Option Request
  | first :: count :: rest => (takeSteps count.toNat rest).map (.loadSteps first)
  | _ => none

/-- LOAD_DESTINATION's fields. -/
def parseDestination : List Byte → Option Request
  | number :: rest =>
    match takeText rest with
    | some (digits, flag :: _) => some (.loadDestination number digits flag)
    | _ => none
  | [] => none

/-- SET_PREFERENCES's fields. -/
def parsePreferences : List Byte → Option Request
  | count :: rest => (takePreferences count.toNat rest).map .setPreferences
  | [] => none

/-- SET_BOX_RECORD's fields. -/
def parseBox (b : List Byte) : Option Request := do
  let (identity, b) ← takeText b
  let (location, _) ← takeText b
  some (.setBoxRecord identity location)

/-- SURVEY_HOLD: HOLD 1, RELEASE 2 (08 R162). -/
def parseHold : List Byte → Option Request
  | action :: _ => if action = 1 then some .surveyHold else if action = 2 then some .surveyRelease else none
  | [] => none

/-- READ_TABLE: by slot 1, ranked 2 (01 R26). -/
def parseReadTable : List Byte → Option Request
  | form :: first :: count :: _ =>
    if form = 1 then some (.readTableBySlot first count)
    else if form = 2 then some (.readTableRanked first count) else none
  | _ => none

/-- READ_PLAN: STEPS 1, DESTINATION 2, BOX 3 (02 R52), each long enough with its own fields (log 41). -/
def parseReadPlan : List Byte → Option Request
  | selector :: rest =>
    if selector = 3 then some .readPlanBox
    else
      match rest with
      | a :: more =>
        if selector = 2 then some (.readPlanDestination a)
        else if selector = 1 then
          match more with
          | count :: _ => some (.readPlanSteps a count)
          | [] => none
        else none
      | [] => none
  | [] => none

/-- A READ_PLAN's payload: an unknown selector names no form, so it is long enough by itself (02 R52; logs 41,
42). -/
def parsePlan (payload : List Byte) : Parsed :=
  match payload with
  | selector :: _ =>
    if selector = 1 ∨ selector = 2 ∨ selector = 3 then parsedOr (parseReadPlan payload) else .unknownPlan
  | [] => .badArgument

/-- READ_LOG: RECORDS 1, SUMMARY 2 (05 R112, R113), each long enough with its own fields (log 41). -/
def parseReadLog : List Byte → Option Request
  | selector :: rest =>
    if selector = 2 then some .readLogSummary
    else if selector = 1 then
      match rest with
      | position :: count :: _ => some (.readLogRecords position count)
      | _ => none
    else none
  | [] => none

/-- PORT_CONTROL: the port, then DISABLE 1 or ENABLE 2 (06 R137, R138). -/
def parsePortControl : List Byte → Option Request
  | port :: action :: _ =>
    if action = 1 then some (.portControlDisable port)
    else if action = 2 then some (.portControlEnable port) else none
  | _ => none

/-- A request of one byte. -/
def parseOne (make : Byte → Request) : List Byte → Option Request
  | b :: _ => some (make b)
  | [] => none

/-- The request a frame carries (10 R186); an unknown selector or action is BAD_ARGUMENT as its rule says. -/
def parseRequest (f : Frame) : Parsed :=
  match f.type.toNat with
  | 0x01 => .request .status
  | 0x02 => .request .startCall
  | 0x03 => .request .endCall
  | 0x04 => parsedOr (parseTuning f.payload)
  | 0x05 => parsedOr (parseSupply f.payload)
  | 0x06 => parsedOr (parseSurvey f.payload)
  | 0x07 => parsedOr (parseHold f.payload)
  | 0x08 => parsedOr (parseOne .surveyNow f.payload)
  | 0x09 => parsedOr (parseSteps f.payload)
  | 0x0A => parsedOr (parseDestination f.payload)
  | 0x0B => parsedOr (parsePreferences f.payload)
  | 0x0C => parsedOr (parseBox f.payload)
  | 0x0D => parsedOr (parseReadTable f.payload)
  | 0x0E => parsePlan f.payload
  | 0x0F => parsedOr (parseReadLog f.payload)
  | 0x10 => .request .readPending
  | 0x11 => parsedOr (parseOne .setReports f.payload)
  | 0x12 => parsedOr (parsePortControl f.payload)
  | 0x13 => parsedOr (parseOne .clearAttention f.payload)
  | 0x14 => .request .clearTable
  | 0x15 => .request .commitConfig
  | 0x16 => parsedOr (parseOne .reset f.payload)
  | _ => .unknown

/-- A byte that may be absent, as sent (step 1). -/
def optByteBytes : Option Byte → List Byte
  | some b => [1, b]
  | none => [0, 0]

/-- Two bytes that may be absent, as sent (step 1). -/
def optWordBytes : Option Word → List Byte
  | some w => 1 :: wordBytes w
  | none => [0, 0, 0]

/-- The five bytes of a step record. -/
def stepBytesList (r : StepBytes) : List Byte := [r.action, r.more, r.operand, r.filter, r.tries]

/-- The four bytes of a preference record. -/
def preferenceBytesList (r : PreferenceBytes) : List Byte := code24Bytes r.operator ++ [r.preference]

/-- SET_TUNING's payload. -/
def tuningBytes (a : TuningArgs) : List Byte :=
  optWordBytes a.floor ++ optByteBytes a.ringTimeout ++ optWordBytes a.callbackWindow
    ++ optByteBytes a.recoveryLimit ++ optByteBytes a.standbyEnable ++ optByteBytes a.answerInIdle
    ++ optByteBytes a.entrySlot

/-- SET_SURVEY's payload. -/
def surveyBytes (a : SurveyArgs) : List Byte :=
  optWordBytes a.period
    ++ (match a.compares with
        | some c => 1 :: (wordBytes c.p0 ++ wordBytes c.p1 ++ wordBytes c.p2 ++ wordBytes c.p3)
        | none => [0, 0, 0, 0, 0, 0, 0, 0, 0])
    ++ (match a.policies with
        | some q => [1, q.p0, q.p1, q.p2, q.p3]
        | none => [0, 0, 0, 0, 0])

/-- The frame that carries a request (10 section 10.7). -/
def encodeRequest : Request → Frame
  | .status => ⟨0x01, []⟩
  | .startCall => ⟨0x02, []⟩
  | .endCall => ⟨0x03, []⟩
  | .setTuning a => ⟨0x04, tuningBytes a⟩
  | .setSupply a => ⟨0x05, optWordBytes a.warn ++ optWordBytes a.shed ++ optWordBytes a.cutoff⟩
  | .setSurvey a => ⟨0x06, surveyBytes a⟩
  | .surveyHold => ⟨0x07, [1]⟩
  | .surveyRelease => ⟨0x07, [2]⟩
  | .surveyNow ports => ⟨0x08, [ports]⟩
  | .loadSteps first records =>
    ⟨0x09, first :: byteOf records.length :: records.flatMap stepBytesList⟩
  | .loadDestination number digits flag => ⟨0x0A, number :: (textBytes digits ++ [flag])⟩
  | .setPreferences records => ⟨0x0B, byteOf records.length :: records.flatMap preferenceBytesList⟩
  | .setBoxRecord identity location => ⟨0x0C, textBytes identity ++ textBytes location⟩
  | .readTableBySlot first count => ⟨0x0D, [1, first, count]⟩
  | .readTableRanked position count => ⟨0x0D, [2, position, count]⟩
  | .readPlanSteps first count => ⟨0x0E, [1, first, count]⟩
  | .readPlanDestination number => ⟨0x0E, [2, number]⟩
  | .readPlanBox => ⟨0x0E, [3]⟩
  | .readLogRecords position count => ⟨0x0F, [1, position, count]⟩
  | .readLogSummary => ⟨0x0F, [2]⟩
  | .readPending => ⟨0x10, []⟩
  | .setReports mask => ⟨0x11, [mask]⟩
  | .portControlDisable port => ⟨0x12, [port, 1]⟩
  | .portControlEnable port => ⟨0x12, [port, 2]⟩
  | .clearAttention ports => ⟨0x13, [ports]⟩
  | .clearTable => ⟨0x14, []⟩
  | .commitConfig => ⟨0x15, []⟩
  | .reset force => ⟨0x16, [force]⟩

/-! ## Notices (07 R143, R144) -/

/-- The class of a class code (10 section 10.7). -/
def classOf? (b : Byte) : Option AccessClass :=
  if b = 1 then some .legacy else if b = 2 then some .wide else if b = 3 then some .packet else none

/-- The greatest operator code. -/
def maxOperator : Nat := 999999

/-- A listed network; none where its class or operator code leaves it out (07 R144). -/
def sampleOfGroup (g : NetworkGroup) : Option Sample :=
  match classOf? g.cls with
  | none => none
  | some c =>
    if g.operator.toNat ≤ maxOperator then some (sampleOf ⟨g.operator.toNat, c⟩ g.level g.quality) else none

/-- SCAN_RESULT; a count above 8 is malformed (07 R143). -/
def readScan (groups : List NetworkGroup) : Option Notice :=
  if groups.length ≤ 8 then some (.scanResult (groups.filterMap sampleOfGroup)) else none

/-- ATTACH_RESULT: OK 1; anything else is FAILED (07 R144). -/
def readAttach (result cause : Byte) : Notice := .attachResult (result == 1) cause

/-- The cause of a CALL_ENDED; one outside the six is NET_DROP (07 R144, R151). -/
def endCauseOf (b : Byte) : EndCause :=
  match b.toNat with
  | 1 => .farClear
  | 2 => .netDrop
  | 3 => .rejected
  | 4 => .busy
  | 5 => .noAnswer
  | 6 => .localClear
  | _ => .netDrop

/-- A dialling character: 0 to 9, * or #. -/
def dialChar (b : Byte) : Bool := (0x30 ≤ b.toNat && b.toNat ≤ 0x39) || b.toNat == 0x2A || b.toNat == 0x23

/-- Caller digits out of range are taken as absent (07 R144). -/
def callerDigits (digits : Option (List Byte)) : Option (List Byte) :=
  match digits with
  | some d => if d.length ≤ 20 && d.all dialChar then some d else none
  | none => none

/-- As many 6-byte network groups as counted. -/
def takeGroups : Nat → List Byte → Option (List NetworkGroup)
  | 0, _ => some []
  | n + 1, b2 :: b1 :: b0 :: c :: l :: q :: rest =>
    (takeGroups n rest).map (⟨code24Of b2 b1 b0, c, l, q⟩ :: ·)
  | _ + 1, _ => none

/-- SCAN_RESULT from its payload. -/
def parseScan : List Byte → Option Notice
  | count :: rest => (takeGroups count.toNat rest).bind readScan
  | [] => none

/-- INCOMING from its payload. -/
def parseIncoming : List Byte → Option Notice
  | present :: len :: rest =>
    if byteSet present then
      if len.toNat ≤ rest.length then some (.incoming (callerDigits (some (rest.take len.toNat)))) else none
    else some (.incoming none)
  | _ => none

/-- CALL_PROGRESS by its stage: ALERTING 1, CONNECTED 2; another is discarded (07 R144). -/
def readProgress (stage : Byte) : Option Notice :=
  if stage = 1 then some .alerting else if stage = 2 then some .connected else none

/-- MODULE_ALERT by its kind: FAULT 1, REGISTRATION_LOST 2; another is discarded (07 R144). -/
def readAlert (kind : Byte) : Option Notice :=
  if kind = 1 then some .alertFault else if kind = 2 then some .alertRegistrationLost else none

/-- A notice of one byte. -/
def parseNoticeByte (read : Byte → Option Notice) : List Byte → Option Notice
  | b :: _ => read b
  | [] => none

/-- A notice of two bytes. -/
def parseNoticePair (read : Byte → Byte → Notice) : List Byte → Option Notice
  | a :: b :: _ => some (read a b)
  | _ => none

/-- DATA_RESULT: SENT 1; anything else is FAILED (07 R144). -/
def readData (result : Byte) : Notice := .dataResult (result == 1)

/-- CALL_ENDED from its two bytes. -/
def readCallEnded (cause moduleCause : Byte) : Notice := .callEnded (endCauseOf cause) moduleCause

/-- The notice a frame carries; none where it is unknown or malformed (07 R143). -/
def parseNotice (f : Frame) : Option Notice :=
  match f.type.toNat with
  | 0xA1 => some .wakeDone
  | 0xA2 => some .sleepDone
  | 0xA3 => parseScan f.payload
  | 0xA4 => parseNoticePair readAttach f.payload
  | 0xA5 => some .detachDone
  | 0xA6 => parseNoticeByte readProgress f.payload
  | 0xA7 => parseNoticePair readCallEnded f.payload
  | 0xA8 => parseIncoming f.payload
  | 0xA9 => parseNoticePair .servingLevel f.payload
  | 0xAA => parseNoticeByte (fun b => some (readData b)) f.payload
  | 0xAB => parseNoticeByte readAlert f.payload
  | _ => none

end Sys2Proof.Machine
end

