-- ==== Sys2Proof/Config.lean ====
section
/-! DEFINITION. What one manufactured part fixes and the manual leaves open: free constants, with no body,
so that no proof can rest on a value of them. -/

namespace Sys2Proof.Config

/-- The part's hardware revision number, which the START report carries as one byte (11 R200; log 10). -/
opaque hardwareRevision : Byte

/-- The bytes of the stored image of a working configuration (11 R195, R196): the manual gives the image's
items and the function its CRC is computed by, not its byte layout (log 9). -/
opaque imageBytes : Machine.WorkingConfig → List Byte

end Sys2Proof.Config
end

