-- ==== Sys2Proof/Machine/Startup.lean ====
section
/-! DEFINITION. Resets and start-up (11 R197 to R200). -/

namespace Sys2Proof.Machine

/-- The CRC of a stored image (11 R196). -/
def imageCrc (image : WorkingConfig) : Word := crc16 (Config.imageBytes image)

/-- The stored copy passes its check (11 R199). -/
def Store.good (r : Store) : Bool := r.mark && imageCrc r.image == r.crc

/-- The working configuration start-up loads (11 R199). -/
def loadedConfig (r : Store) : WorkingConfig := if r.good then r.image else WorkingConfig.builtin

/-- A port's power state after a reset (06 R115). -/
def powerAfterReset (straps : Straps) (cfg : WorkingConfig) (p : Port) : Power :=
  if straps.fitted.get p && cfg.enables.get p then .off else .disabled

/-- The blocks as a reset leaves them, before the START report (11 R199); a COMMIT_CONFIG in progress ends
with the mark as it stood, clear (R197), and
behind it the copy of before the write (log 32). -/
def resetBlocks (s : State) : State :=
  let cfg := loadedConfig s.store
  { cfg := cfg
    table := NetTable.free
    log := AttemptLog.empty
    campaign := Campaign.inIdle
    ports := PerPort.build fun p => PortContext.afterReset (powerAfterReset s.straps cfg p)
    survey := Survey.afterReset cfg.compares
    supply := Supply.afterReset
    link := Link.afterReset
    store := { s.store with writing := none }
    board := s.straps
    straps := s.straps
    armed := true
    serial := 0
    pending := s.pending }

/-- The START SCAN to a port that is OFF (11 R200). -/
def startScan (p : Port) (s : State) : State :=
  if (s.port p).power = .off then submit p ⟨.scan, .start⟩ s else s

/-- A reset of a kind: start-up whole (11 R199, R200). -/
def startUp (kind : ResetKind) (s : State) : State :=
  eachPort startScan portList
    (raise (.start kind (!s.store.good) s.straps.fitted s.straps.rate) (resetBlocks s))

end Sys2Proof.Machine
end

