-- ==== Sys2Proof/Machine/SurveyEvents.lean ====
section
/-! DEFINITION. The Survey Timer (08): the counter's step at a tick, period ends, compare matches, holds,
and surveys on request. -/

namespace Sys2Proof.Machine

/-- Step 1 of R154: 4095 wraps to 0. -/
def counterNext (n : Nat) : Nat := if n = 4095 then 0 else n + 1

/-- The compare points in force that equal the counter (08 R154 step 3). -/
def matchesAt (v : Survey) : PerPort Bool := v.inForce.map fun c => c == v.counter

/-- The tick's step of the counter; a period end, else the matches, are marked as due (08 R154; log 2). -/
def surveyTick (s : State) : State :=
  if s.survey.running then
    s.onSurvey fun v =>
      let n := counterNext v.counter
      if n = s.cfg.period then { v with counter := 0, periodEndDue := true, matchDue := allPorts false }
      else
        let v1 := { v with counter := n }
        { v1 with matchDue := matchesAt v1 }
  else s

/-- A period end (08 R155), with the period, compares and settings as they stand when its row is taken (log 45);
the matches against the compares just loaded follow (R154 step 3). -/
def periodEnds (s : State) : State :=
  let count := (s.survey.periodEnds + 1) % 65536
  let s1 := raise (.periodEnd count s.cfg.period s.cfg.compares s.survey.records)
    (s.onSurvey fun v => { v with periodEnds := count, periodEndDue := false })
  let s2 := s1.onSurvey fun v => { v with records := allPorts .none, inForce := s.cfg.compares }
  (seekStandby (decayFailures s2)).onSurvey fun v => { v with matchDue := matchesAt v }

/-- Why a match is skipped, by the tests in their order (08 R156). -/
def skipReason (s : State) (p : Port) : Option SkipReason :=
  if (s.port p).power = .disabled then some .disabled
  else if (s.port p).power = .fault ∨ (s.port p).power = .dead then some .unavailable
  else if s.supply.mode ≠ .normal ∧ s.supply.mode ≠ .low then some .supply
  else if s.campaign.active &&
      (s.campaign.callPort == some p || isStandbyPort s p
        || s.campaign.attempt.any fun t => t.port == some p) then some .campaign
  else none

/-- Write the match record of a compare point. -/
def recordMatch (p : Port) (r : MatchRecord) (s : State) : State :=
  s.onSurvey fun v => { v with records := v.records.put p r }

/-- A match of a compare point (08 R156). -/
def compareMatches (p : Port) (s : State) : State :=
  let s1 := s.onSurvey fun v => { v with matchDue := v.matchDue.put p false }
  match skipReason s1 p with
  | some reason => recordMatch p (.skipped reason) s1
  | none =>
    let o : Order := ⟨.scan, .survey s1.survey.periodEnds⟩
    if answerFor p o s1 = .accepted then recordMatch p .submitted (acceptOrder p o s1)
    else recordMatch p (.skipped .queueFull) s1

/-- A match that the last step made and no row has taken. -/
def takeMatch (p : Port) (s : State) : State := if s.survey.matchDue.get p then compareMatches p s else s

/-- What the last tick's step made and no row has taken: its period end, then its matches (08 R154; log 31). -/
def finishStep (s : State) : State :=
  eachPort takeMatch portList (if s.survey.periodEndDue then periodEnds s else s)

/-- The counter and compares of a hold (08 R162). -/
def holdCounter (s : State) : State := s.onSurvey fun v => { v with counter := 0, inForce := s.cfg.compares }

/-- HOLD, the last tick's step being finished first (08 R162; log 31). -/
def holdByHost (s : State) : State := holdCounter ((finishStep s).onSurvey fun v => { v with holdHost := true })

/-- RELEASE (08 R162). -/
def releaseByHost (s : State) : State := s.onSurvey fun v => { v with holdHost := false }

/-- HALT holds the timer (08 R163). -/
def holdByHalt (s : State) : State := holdCounter (s.onSurvey fun v => { v with holdHalt := true })

/-- SURVEY_NOW's SCAN at one port, when it is named (08 R165). -/
def surveyPort (named : PerPort Bool) (p : Port) (s : State) : State :=
  if named.get p then submit p ⟨.scan, .host⟩ s else s

/-- SURVEY_NOW's SCANs, P0 to P3 (08 R165). -/
def surveyNamed (named : PerPort Bool) (s : State) : State := eachPort (surveyPort named) portList s

/-- A named port's answer; the ports do not touch one another, so it is the answer before any SCAN. -/
def surveyAnswer (named : PerPort Bool) (s : State) (p : Port) : Option SubmitAnswer :=
  if named.get p then some (answerFor p ⟨.scan, .host⟩ s) else none

end Sys2Proof.Machine
end

