-- ==== Sys2Proof/Machine/SupplyEvents.lean ====
section
/-! DEFINITION. The Supply Monitor (09): conversions, mode evaluation, thresholds, HALT, supply restart. -/

namespace Sys2Proof.Machine

/-- The clamps of R169 in their order. -/
def clampThresholds (t : Thresholds) : Thresholds :=
  let warn := clampNat 9400 15000 t.warn
  let shed := clampNat 9200 (warn - 200) t.shed
  ⟨warn, shed, clampNat 9000 (shed - 200) t.cutoff⟩

/-- The falling target (09 R170). -/
def fallingTarget (t : Thresholds) (v : Nat) : SupplyMode :=
  if v < t.cutoff then .cutoff
  else if v < t.shed then .shed
  else if v < t.warn then .low
  else .normal

/-- The least severe mode whose rising condition holds; CUTOFF when none does (09 R171). -/
def risingTarget (t : Thresholds) (v : Nat) : SupplyMode :=
  if t.warn + 200 ≤ v then .normal
  else if t.shed + 200 ≤ v then .low
  else if t.cutoff + 200 ≤ v then .shed
  else .cutoff

/-- The mode after an evaluation (09 R170, R171). -/
def evaluateMode (t : Thresholds) (mode : SupplyMode) (v : Nat) : SupplyMode :=
  if mode.severity < (fallingTarget t v).severity then fallingTarget t v
  else if (risingTarget t v).severity < mode.severity then risingTarget t v
  else mode

/-- The restart level (09 R176). -/
def restartLevel (s : State) : Nat := s.cfg.thresholds.cutoff + 400

/-- A conversion starts (09 R167). -/
def conversionStarts (s : State) : State :=
  s.onSupply fun m => { m with converting := true, interval := if m.halt then 60 else 10 }

/-- A conversion start that the last tick made due and no row has taken (09 R167; log 31). -/
def takeStart (s : State) : State := if s.supply.interval = 0 then conversionStarts s else s

/-- The entry to HALT. What the last tick made at the Survey Timer and at the interval timer is finished
first (09 R167, R176; log 31). -/
def enterHalt (s : State) : State :=
  let s1 := (takeStart (finishStep s)).onSupply fun m => { m with halt := true, interval := 60 }
  raise (.supplyHalt s1.supply.last (restartLevel s1)) (holdByHalt (eachPort haltPort portList s1))

/-- Enter HALT where the mode is CUTOFF, the campaign IDLE and halt clear (09 R176). -/
def haltIfCutoff (s : State) : State :=
  if s.supply.mode = .cutoff ∧ s.campaign.state = .idle ∧ s.supply.halt = false then enterHalt s else s

/-- A change of mode (09 R172). -/
def changeMode (after : SupplyMode) (s : State) : State :=
  if s.supply.mode = after then s
  else
    takeMode (raise (.supplyMode s.supply.mode after s.supply.last)
      (s.onSupply fun m => { m with mode := after }))

/-- A conversion's value is stored (09 R168). -/
def storeConversion (v : Nat) (s : State) : State :=
  s.onSupply fun m => { m with converting := false, last := some v }

/-- A conversion completes (09 R168, R176, R178). -/
def conversionCompletes (v : Nat) (s : State) : State :=
  let s1 := storeConversion v s
  if s.supply.halt then (if restartLevel s1 ≤ v then startUp .supply s1 else s1)
  else
    let s2 := changeMode (evaluateMode s.cfg.thresholds s.supply.mode v) s1
    if s.campaign.state = .idle then haltIfCutoff s2 else s2

/-- A notice of the campaign's return to IDLE is taken (09 R175, R176). -/
def takeIdleNotice (s : State) : State :=
  haltIfCutoff (s.onSupply fun m => { m with idleNotices := m.idleNotices - 1 })

end Sys2Proof.Machine
end

