-- ==== Sys2Proof/Machine/Requests.lean ====
section
/-! DEFINITION. What each request does at the block that owns its subject (10 section 10.4): its reply code
and contents, the state the reply is placed on, and what its handling does after the reply. -/

namespace Sys2Proof.Machine

/-- A request's handling: `before` is what it changes without a report, `after` what follows the reply in
the same event, its reports among it (10 R186). -/
structure Handled where
  code : ReplyCode
  contents : Contents
  before : State
  after : State → Option State

/-- A handling with no more to do once the reply is placed. -/
def answered (code : ReplyCode) (contents : Contents) (s : State) : Handled := ⟨code, contents, s, some⟩

/-- A refusal: no contents, the state as it was. -/
def refusedWith (code : ReplyCode) (s : State) : Handled := answered code .none s

/-! ## STATUS (10 R188) -/

/-- One port in STATUS. -/
def portView (s : State) (p : Port) : PortView where
  fitted := s.board.fitted.get p
  power := (s.port p).power
  attachment := (s.port p).attachment
  call := (s.port p).call
  attention := (s.port p).attention
  restartCount := (s.port p).restartCount

/-- What STATUS returns. -/
def statusView (s : State) : StatusView where
  state := s.campaign.state
  phase := s.campaign.phase
  origin := s.campaign.origin
  number := s.campaign.attempt.bind CurrentTry.number
  recoveries := s.campaign.recoveries
  presses := s.campaign.presses
  route := s.campaign.route
  standby := s.campaign.standby.map fun b => (b.entry, b.port, b.status)
  callbackPort := s.campaign.callbackPort
  mode := s.supply.mode
  halt := s.supply.halt
  last := s.supply.last
  converting := s.supply.converting
  ports := PerPort.build (portView s)
  pendingSet := s.link.pendingSet
  mask := s.cfg.mask

/-- STATUS. -/
def handleStatus (s : State) : Handled := answered .ok (.status (statusView s)) s

/-! ## START_CALL, END_CALL (03 R57, R73) -/

/-- The reply code of START_CALL. -/
def startCallCode (s : State) : ReplyCode :=
  if canStart s then .ok
  else if s.campaign.state = .idle ∨ s.campaign.state = .callback then .power
  else .busy

/-- START_CALL. -/
def handleStartCall (s : State) : Handled :=
  ⟨startCallCode s, .none, s, fun s1 => if canStart s then startCampaign .host s1 else some s1⟩

/-- END_CALL. -/
def handleEndCall (s : State) : Handled := ⟨endCallCode s, .none, s, fun s1 => some (takeEndCall s1)⟩

/-! ## SET_TUNING (10 R189) -/

/-- A plan slot from a number, above 63 taken as 63. -/
def slotOfByte (b : Byte) : PlanSlot := Fin.ofNat 64 (clampNat 0 63 b.toNat)

/-- The tuning after a SET_TUNING: an absent value keeps its setting, the others are clamped. -/
def newTuning (a : TuningArgs) (t : Tuning) : Tuning where
  floor := (a.floor.map fun w => clampNat 0 780 w.toNat).getD t.floor
  ringTimeout := (a.ringTimeout.map fun b => clampNat 10 120 b.toNat).getD t.ringTimeout
  callbackWindow := (a.callbackWindow.map fun w => clampNat 0 3600 w.toNat).getD t.callbackWindow
  recoveryLimit := (a.recoveryLimit.map fun b => clampNat 0 7 b.toNat).getD t.recoveryLimit
  standbyEnable := (a.standbyEnable.map byteSet).getD t.standbyEnable
  answerInIdle := (a.answerInIdle.map byteSet).getD t.answerInIdle
  entrySlot := (a.entrySlot.map slotOfByte).getD t.entrySlot

/-- SET_TUNING: scores are recomputed (01 R19), and a standby is cleared when its enable goes off (04 R87). -/
def handleSetTuning (a : TuningArgs) (s : State) : Handled :=
  let t := newTuning a s.cfg.tuning
  let cleared := s.cfg.tuning.standbyEnable && !t.standbyEnable
  ⟨.ok, .tuning t, rescoreAll (s.onConfig fun g => { g with tuning := t }),
    fun s1 => some (if cleared then clearStandby .disabled s1 else s1)⟩

/-! ## SET_SUPPLY (09 R169) -/

/-- The thresholds after a SET_SUPPLY. -/
def newThresholds (a : SupplyArgs) (t : Thresholds) : Thresholds :=
  clampThresholds
    ⟨(a.warn.map BitVec.toNat).getD t.warn, (a.shed.map BitVec.toNat).getD t.shed,
      (a.cutoff.map BitVec.toNat).getD t.cutoff⟩

/-- SET_SUPPLY. -/
def handleSetSupply (a : SupplyArgs) (s : State) : Handled :=
  let t := newThresholds a s.cfg.thresholds
  answered .ok (.supply t s.supply.mode s.supply.halt s.supply.last s.supply.converting)
    (s.onConfig fun g => { g with thresholds := t })

/-! ## The Survey Timer's requests (08 R159 to R162, R165) -/

/-- A policy from its byte: KEEP_WARM 1, ON_DEMAND 2. -/
def policyOf? (b : Byte) : Option Policy :=
  if b = 1 then some .keepWarm else if b = 2 then some .onDemand else none

/-- Four policies; none when any is neither. -/
def policiesOf? (q : PerPort Byte) : Option (PerPort Policy) :=
  match policyOf? q.p0, policyOf? q.p1, policyOf? q.p2, policyOf? q.p3 with
  | some a, some b, some c, some d => some ⟨a, b, c, d⟩
  | _, _, _, _ => none

/-- The configuration after a SET_SURVEY with its policies read (08 R159). -/
def newSurveyConfig (a : SurveyArgs) (policies : Option (PerPort Policy)) (g : WorkingConfig) :
    WorkingConfig :=
  { g with
    period := (a.period.map fun w => clampNat 30 4095 w.toNat).getD g.period
    compares := (a.compares.map fun c => c.map fun w => clampNat 0 4095 w.toNat).getD g.compares
    policies := policies.getD g.policies }

/-- A SET_SURVEY accepted: compares come into force at once while the timer is held (08 R160, R161). A period end
that the last tick made and no row has taken is not taken first, as HOLD does: it then reports and loads what
this SET_SURVEY wrote (log 45). -/
def applySurvey (a : SurveyArgs) (policies : Option (PerPort Policy)) (s : State) : State :=
  let s1 := s.onConfig (newSurveyConfig a policies)
  if a.compares.isSome && !s.survey.running then
    s1.onSurvey fun v => { v with inForce := s1.cfg.compares }
  else s1

/-- The contents of a SET_SURVEY reply (08 R159). -/
def surveyContents (s : State) : Contents :=
  .survey s.cfg.period s.cfg.compares s.survey.inForce s.cfg.policies s.survey.counter s.survey.holdHost
    s.survey.holdHalt s.survey.periodEnds

/-- SET_SURVEY. -/
def handleSetSurvey (a : SurveyArgs) (s : State) : Handled :=
  match a.policies with
  | none =>
    let s1 := applySurvey a none s
    answered .ok (surveyContents s1) s1
  | some q =>
    match policiesOf? q with
    | none => refusedWith .badArgument s
    | some policies =>
      let s1 := applySurvey a (some policies) s
      answered .ok (surveyContents s1) s1

/-- The contents of a SURVEY_HOLD reply (08 R162). -/
def holdContents (s : State) : Contents :=
  .hold s.survey.holdHost s.survey.holdHalt s.survey.counter s.cfg.period s.survey.inForce s.survey.periodEnds

/-- SURVEY_HOLD, action HOLD. -/
def handleSurveyHold (s : State) : Handled := answered .ok (holdContents (holdByHost s)) (holdByHost s)

/-- SURVEY_HOLD, action RELEASE. -/
def handleSurveyRelease (s : State) : Handled :=
  answered .ok (holdContents (releaseByHost s)) (releaseByHost s)

/-- The named ports that refused, with their reasons, P0 to P3. -/
def refusals (answers : Port → Option SubmitAnswer) : List (Port × SubmitAnswer) :=
  portList.filterMap fun p =>
    match answers p with
    | some .accepted | none => none
    | some a => some (p, a)

/-- SURVEY_NOW; a set that names a port outside P0 to P3 is refused (08 R165). -/
def handleSurveyNow (ports : Byte) (s : State) : Handled :=
  if 16 ≤ ports.toNat then refusedWith .badArgument s
  else
    let named := portSetOf ports
    let answers := surveyAnswer named s
    answered .ok (.surveyNow (PerPort.build fun p => answers p == some .accepted) (refusals answers))
      (surveyNamed named s)

/-! ## The Dial Plan Store's requests (02 R47 to R52) -/

/-- A destination number; none above 7. -/
def destOf? (b : Byte) : Option DestNumber :=
  if h : b.toNat < 8 then some ⟨b.toNat, h⟩ else none

/-- A plan slot; none above 63. -/
def planSlotOf? (b : Byte) : Option PlanSlot :=
  if h : b.toNat < 64 then some ⟨b.toNat, h⟩ else none

/-- A TEST condition; only NO_CANDIDATE keeps the class filter (02 section 2.1, R27). -/
def conditionOf? (b : Byte) (filter : ClassSet) : Option Condition :=
  match b.toNat with
  | 1 => some (.noCandidate filter)
  | 2 => some .supplyLow
  | 3 => some .afterLoss
  | 4 => some .pressed
  | _ => none

/-- A step record checked and brought to its stored form (02 R27, R49). -/
def stepOf? (r : StepBytes) : Option PlanStep :=
  match r.action.toNat with
  | 1 =>
    if 1 ≤ r.tries.toNat ∧ r.tries.toNat ≤ 7 then
      (destOf? r.operand).map fun d => .dial d (ClassSet.ofByte r.filter) r.tries.toNat (byteSet r.more)
    else none
  | 2 => if r.operand.toNat = 0 then none else some (.wait r.operand.toNat (byteSet r.more))
  | 3 => some (.resurvey (byteSet r.more))
  | 4 => (conditionOf? r.operand (ClassSet.ofByte r.filter)).map .test
  | 5 => (planSlotOf? r.operand).map .goto
  | 6 => (planSlotOf? r.operand).map .invoke
  | 7 => some .ret
  | _ => none

/-- Every record's stored form; none when any fails the check. -/
def stepsOf? : List StepBytes → Option (List PlanStep)
  | [] => some []
  | r :: rest =>
    match stepOf? r, stepsOf? rest with
    | some x, some xs => some (x :: xs)
    | _, _ => none

/-- Store steps into consecutive slots, running past 63 into 0 (02 R49). -/
def storeSteps (slot : PlanSlot) : List PlanStep → Vector PlanStep 64 → Vector PlanStep 64
  | [], v => v
  | x :: rest, v => storeSteps (slot + 1) rest (v.set slot x)

/-- A campaign walks or may resume the plan (02 R50). -/
def planBusy (s : State) : Bool := s.campaign.state != .idle && s.campaign.state != .callback

/-- LOAD_STEPS (02 R49, R50). -/
def handleLoadSteps (first : Byte) (records : List StepBytes) (s : State) : Handled :=
  if planBusy s then refusedWith .busy s
  else if records.length = 0 ∨ 8 < records.length then refusedWith .badArgument s
  else
    match planSlotOf? first, stepsOf? records with
    | some slot, some steps =>
      answered .ok .none (s.onConfig fun g => { g with steps := storeSteps slot steps g.steps })
    | _, _ => refusedWith .badArgument s

/-- LOAD_DESTINATION (02 R47). -/
def handleLoadDestination (number : Byte) (digits : List Byte) (dataFlag : Byte) (s : State) : Handled :=
  match destOf? number with
  | none => refusedWith .badArgument s
  | some n =>
    if digits.length ≤ 20 && digits.all dialChar then
      answered .ok .none
        (s.onConfig fun g => { g with directory := g.directory.set n ⟨digits, byteSet dataFlag⟩ })
    else refusedWith .badArgument s

/-- A printable character, 20h to 7Eh (02 section 2.5). -/
def printable (b : Byte) : Bool := 0x20 ≤ b.toNat && b.toNat ≤ 0x7E

/-- SET_BOX_RECORD (02 R48). -/
def handleSetBoxRecord (identity location : List Byte) (s : State) : Handled :=
  if !identity.isEmpty && identity.all printable && location.all printable then
    let box : BoxRecord := ⟨identity.take 16, location.take 32⟩
    answered .ok (.textKept box.identity.length box.location.length)
      (s.onConfig fun g => { g with box := box })
  else refusedWith .badArgument s

/-- Consecutive plan slots from a first one, running past 63 into 0. -/
def planSlotsFrom (slot : PlanSlot) : Nat → List PlanSlot
  | 0 => []
  | n + 1 => slot :: planSlotsFrom (slot + 1) n

/-- A refusal of READ_PLAN: it carries the entry slot, as every reply to READ_PLAN does (02 R52, 10 R187). -/
def refusePlan (s : State) : Handled := answered .badArgument (.planRefused s.cfg.tuning.entrySlot) s

/-- READ_PLAN, selector STEPS (02 R52). -/
def handleReadPlanSteps (first count : Byte) (s : State) : Handled :=
  match planSlotOf? first with
  | none => refusePlan s
  | some slot =>
    if 1 ≤ count.toNat ∧ count.toNat ≤ 8 then
      answered .ok
        (.planSteps ((planSlotsFrom slot count.toNat).map fun x => (x, s.cfg.steps.get x))
          s.cfg.tuning.entrySlot) s
    else refusePlan s

/-- READ_PLAN, selector DESTINATION (02 R52). -/
def handleReadPlanDestination (number : Byte) (s : State) : Handled :=
  match destOf? number with
  | none => refusePlan s
  | some n => answered .ok (.planDestination (s.cfg.directory.get n) s.cfg.tuning.entrySlot) s

/-- READ_PLAN, selector BOX (02 R52). -/
def handleReadPlanBox (s : State) : Handled :=
  answered .ok (.planBox s.cfg.box s.cfg.tuning.entrySlot) s

/-! ## The Network Table's requests (01 R15, R25, R26) -/

/-- A preference from its byte: 0 to 3, FFh for BAR. -/
def preferenceOf? (b : Byte) : Option Preference :=
  if h : b.toNat < 4 then some (.weight ⟨b.toNat, h⟩) else if b = 0xFF then some .bar else none

/-- A checked preference record (01 R15). -/
def preferenceRecordOf? (r : PreferenceBytes) : Option PreferenceRecord :=
  if r.operator.toNat ≤ maxOperator then
    (preferenceOf? r.preference).map fun q => ⟨r.operator.toNat, q⟩
  else none

/-- Every record checked; none when any fails. -/
def preferencesOf? : List PreferenceBytes → Option (List PreferenceRecord)
  | [] => some []
  | r :: rest =>
    match preferenceRecordOf? r, preferencesOf? rest with
    | some x, some xs => some (x :: xs)
    | _, _ => none

/-- SET_PREFERENCES (01 R15). -/
def handleSetPreferences (records : List PreferenceBytes) (s : State) : Handled :=
  if 8 < records.length then refusedWith .badArgument s
  else
    match preferencesOf? records with
    | none => refusedWith .badArgument s
    | some list => answered .ok .none (rescoreAll (s.onConfig fun g => { g with preferences := list }))

/-- READ_TABLE by slot: consecutive slots, stopping after slot 23 (01 R26). -/
def handleReadTableBySlot (first count : Byte) (s : State) : Handled :=
  if first.toNat ≤ 23 ∧ 1 ≤ count.toNat ∧ count.toNat ≤ 6 then
    answered .ok
      (.slots (((tableSlots.drop first.toNat).take count.toNat).map fun x => (x, s.table.entry x))) s
  else refusedWith .badArgument s

/-- Entries with their positions in the ranked order. -/
def numbered : Nat → List (TableSlot × Entry) → List (TableSlot × Nat × Entry)
  | _, [] => []
  | n, x :: rest => (x.1, n, x.2) :: numbered (n + 1) rest

/-- READ_TABLE in ranked order, from a position (01 R26). -/
def handleReadTableRanked (position count : Byte) (s : State) : Handled :=
  if 1 ≤ count.toNat ∧ count.toNat ≤ 6 then
    answered .ok
      (.ranked (((numbered 0 s.table.ranked).drop position.toNat).take count.toNat)) s
  else refusedWith .badArgument s

/-- How many entries meet a test. -/
def countEntries (t : NetTable) (test : Entry → Bool) : Nat := (t.slotsWhere test).length

/-- Free every entry that is not in use (01 R25). -/
def clearUnheld (s : State) : State :=
  s.onTable fun t => { t with slots := t.slots.map fun e => e.filter fun x => x.holds.any }

/-- CLEAR_TABLE (01 R25). -/
def handleClearTable (s : State) : Handled :=
  let freed := countEntries s.table fun e => !e.holds.any
  let kept := countEntries s.table fun e => e.holds.any
  ⟨.ok, .cleared freed kept, clearUnheld s, fun s1 => some (raise (.netCleared freed) s1)⟩

/-! ## READ_LOG (05 R112, R113) -/

/-- READ_LOG, selector RECORDS. -/
def handleReadLogRecords (position count : Byte) (s : State) : Handled :=
  if position.toNat ≤ 15 ∧ 1 ≤ count.toNat ∧ count.toNat ≤ 4 then
    answered .ok
      (.logRecords s.log.records.length s.log.truncated s.log.counter
        (s.log.records.head?.map AttemptRecord.number) s.campaign.active
        ((s.log.records.drop position.toNat).take count.toNat)) s
  else refusedWith .badArgument s

/-- READ_LOG, selector SUMMARY. -/
def handleReadLogSummary (s : State) : Handled :=
  answered .ok
    (match s.log.summary with
      | some m => .logSummary m
      | none => .logNoSummary s.log.records.length s.log.counter s.campaign.active) s

/-! ## The Host Link Unit's requests (10 R191, R192, R194) -/

/-- READ_PENDING: the set is read and emptied in one event (10 R192). -/
def handleReadPending (s : State) : Handled :=
  answered .ok (.pendingRead s.link.pendingSet)
    (s.onLink fun l => { l with pendingSet := ReportSet.empty })

/-- SET_REPORTS (10 R191). -/
def handleSetReports (mask : Byte) (s : State) : Handled :=
  match ReportSet.ofByte? mask with
  | none => refusedWith .badArgument s
  | some m => answered .ok (.mask m s.link.pendingSet) (s.onConfig fun g => { g with mask := m })

/-- RESET: refused in DIAL, RING and TALK without force (10 R194). -/
def resetRefused (force : Byte) (s : State) : Bool :=
  !byteSet force
    && (s.campaign.state == .dial || s.campaign.state == .ring || s.campaign.state == .talk)

/-- RESET. -/
def handleReset (force : Byte) (s : State) : Handled :=
  if resetRefused force s then refusedWith .busy s
  else answered .ok .none (s.onLink fun l => { l with resetPending := true })

/-! ## The ports' requests (06 R137 to R139) -/

/-- PORT_CONTROL, action DISABLE (06 R137). -/
def handleDisable (port : Byte) (s : State) : Handled :=
  match portOfNat? port.toNat with
  | none => refusedWith .badArgument s
  | some p => ⟨.ok, .portPower .disabled, s, disablePort p⟩

/-- A DISABLED or DEAD port comes to OFF (06 R138). -/
def enablePort (p : Port) (s : State) : State :=
  (s.onConfig fun g => { g with enables := g.enables.put p true }).onPort p fun c =>
    { c with power := .off, restartCount := 0, restartTimer := none }

/-- PORT_CONTROL, action ENABLE (06 R138). -/
def handleEnable (port : Byte) (s : State) : Handled :=
  match portOfNat? port.toNat with
  | none => refusedWith .badArgument s
  | some p =>
    if s.board.fitted.get p then
      if (s.port p).power = .disabled ∨ (s.port p).power = .dead then
        ⟨.ok, .portPower .off, enablePort p s, fun s1 => some (raisePort .enabled p s1)⟩
      else answered .ok (.portPower (s.port p).power) s
    else refusedWith .badArgument s

/-- Empty the attention set of a named port. -/
def clearAttentionOf (named : PerPort Bool) (p : Port) (s : State) : State :=
  if named.get p then s.onPort p fun c => { c with attention := Attention.empty } else s

/-- CLEAR_ATTENTION (06 R139; log 23). -/
def handleClearAttention (ports : Byte) (s : State) : Handled :=
  let named := portSetOf ports
  answered .ok
    (.attention ((portList.filter named.get).map fun p => (p, (s.port p).attention)))
    (eachPort (clearAttentionOf named) portList s)

/-! ## COMMIT_CONFIG (11 R196) -/

/-- The taking of a COMMIT_CONFIG: the snapshot, with the mark cleared; the reply comes with COMMIT_DONE. -/
def beginCommit (s : State) : State :=
  { s with store := { s.store with mark := false, writing := some s.cfg } }

/-- The handling of a request. COMMIT_CONFIG's reply comes later: `serveFrame` takes it by `beginCommit` and
places none, so the reply named in its arm here is never placed. -/
def handle (r : Request) (s : State) : Handled :=
  match r with
  | .status => handleStatus s
  | .startCall => handleStartCall s
  | .endCall => handleEndCall s
  | .setTuning a => handleSetTuning a s
  | .setSupply a => handleSetSupply a s
  | .setSurvey a => handleSetSurvey a s
  | .surveyHold => handleSurveyHold s
  | .surveyRelease => handleSurveyRelease s
  | .surveyNow ports => handleSurveyNow ports s
  | .loadSteps first records => handleLoadSteps first records s
  | .loadDestination number digits flag => handleLoadDestination number digits flag s
  | .setPreferences records => handleSetPreferences records s
  | .setBoxRecord identity location => handleSetBoxRecord identity location s
  | .readTableBySlot first count => handleReadTableBySlot first count s
  | .readTableRanked position count => handleReadTableRanked position count s
  | .readPlanSteps first count => handleReadPlanSteps first count s
  | .readPlanDestination number => handleReadPlanDestination number s
  | .readPlanBox => handleReadPlanBox s
  | .readLogRecords position count => handleReadLogRecords position count s
  | .readLogSummary => handleReadLogSummary s
  | .readPending => handleReadPending s
  | .setReports mask => handleSetReports mask s
  | .portControlDisable port => handleDisable port s
  | .portControlEnable port => handleEnable port s
  | .clearAttention ports => handleClearAttention ports s
  | .clearTable => handleClearTable s
  | .commitConfig => answered .ok .none (beginCommit s)
  | .reset force => handleReset force s

end Sys2Proof.Machine
end

