-- ==== Sys2Proof/Machine/HostLink.lean ====
section
/-! DEFINITION. The Host Link Unit (10): the inbound queue, the taking of requests, the placing of replies,
the link flags, the outbound frames, and the end of a COMMIT_CONFIG (11 R196). -/

namespace Sys2Proof.Machine

/-! ## Replies and link flags (10 R184 to R187) -/

/-- When the frame at the head is a reply, it begins to leave: the link flags go into it and are cleared
(10 R184). -/
def captureFlags (l : Link) : Link :=
  match l.outbound with
  | .reply r :: rest =>
    { l with
      outbound := .reply { r with frameError := l.frameError, overrun := l.overrun } :: rest
      frameError := false
      overrun := false }
  | _ => l

/-- Place a frame at the tail; one placed in an empty queue begins to leave at once. -/
def placeFrame (f : OutFrame) (l : Link) : Link :=
  let l1 := { l with outbound := l.outbound ++ [f] }
  if l.outbound.isEmpty then captureFlags l1 else l1

/-- Place a reply in a free slot, with the pending set as it stands (10 R185, R187). -/
def placeReply (type : Byte) (code : ReplyCode) (contents : Contents) (s : State) : State :=
  if s.link.outbound.length < 8 then
    s.onLink fun l => placeFrame (.reply ⟨type, code, false, false, l.pendingSet, contents⟩) l
  else s

/-! ## Taking requests (10 R186) -/

/-- The conditions under which the request at the head is taken (10 R186, R193, R194). -/
def canTake (s : State) : Bool :=
  !s.link.inbound.isEmpty && decide (s.link.outbound.length < 8) && s.store.writing.isNone
    && !s.link.resetPending

/-- The reply type of a request: its TYPE with 80h added (10 R187). -/
def replyType (type : Byte) : Byte := type + 0x80

/-- A request's frame is read, handled and answered (10 R186). No block is consulted on a payload that is too
short, so its reply carries no contents, that of a short READ_PLAN neither (log 42). -/
def serveFrame (f : Frame) (s : State) : Option State :=
  match parseRequest f with
  | .unknown => some (placeReply 0x80 .unknown .none s)
  | .badArgument => some (placeReply (replyType f.type) .badArgument .none s)
  | .unknownPlan =>
    let h := refusePlan s
    h.after (placeReply (replyType f.type) h.code h.contents h.before)
  | .request .commitConfig => some (beginCommit s)
  | .request r =>
    let h := handle r s
    h.after (placeReply (replyType f.type) h.code h.contents h.before)

/-- Take the frame at the head. -/
def takeHead (s : State) : Option State :=
  match s.link.inbound with
  | [] => some s
  | f :: rest => serveFrame f (s.onLink fun l => { l with inbound := rest })

/-- Take requests while they can be taken, at most a count. -/
def takeRequests : Nat → State → Option State
  | 0, s => some s
  | n + 1, s => if canTake s then (takeHead s).bind (takeRequests n) else some s

/-- Take every request that can be taken in this event (10 R186). -/
def serveWaiting (s : State) : Option State := takeRequests s.link.inbound.length s

/-! ## The receiving side (10 R181, R183, R184) -/

/-- A good frame is offered to the inbound queue (10 R183). -/
def offerFrame (f : Frame) (s : State) : State :=
  if s.link.inbound.length < 4 then s.onLink fun l => { l with inbound := l.inbound ++ [f] }
  else s.onLink fun l => { l with overrun := true }

/-- A good frame has arrived: offered, and requests are taken (10 R183, R186). -/
def frameArrives (f : Frame) (s : State) : Option State := serveWaiting (offerFrame f s)

/-- A whole good frame on the host line, its last byte just come: the receiver hunts again (10 R181). -/
def hostFrame (f : Frame) (s : State) : Option State :=
  frameArrives f (s.onLink fun l => { l with rx := .hunting })

/-- What a byte made of the host line. -/
def hostHeard (h : Heard) (s : State) : Option State :=
  match h with
  | .nothing => some s
  | .bad => some (s.onLink fun l => { l with frameError := true })
  | .good f => frameArrives f s

/-- Bytes on the host line, one by one (10 R181). -/
def hostBytes : List Byte → State → Option State
  | [], s => some s
  | b :: rest, s =>
    let r := receiveByte s.link.rx b
    (hostHeard r.2 (s.onLink fun l => { l with rx := r.1 })).bind (hostBytes rest)

/-- A gap on the host line: a partial frame is abandoned with FRAME_ERROR (10 R181). -/
def hostGap (s : State) : State :=
  match s.link.rx with
  | .hunting => s
  | .collecting _ => s.onLink fun l => { l with rx := .hunting, frameError := true }

/-- What a byte made of a module line (07 R141): a good frame's notice is taken. -/
def moduleHeard (p : Port) (h : Heard) (s : State) : Option State :=
  match h with
  | .nothing | .bad => some s
  | .good f =>
    match parseNotice f with
    | some n => takeNotice p n s
    | none => some s

/-- Bytes on a module line, one by one (07 R141). -/
def moduleBytes (p : Port) : List Byte → State → Option State
  | [], s => some s
  | b :: rest, s =>
    let r := receiveByte (s.port p).rx b
    (moduleHeard p r.2 (s.onPort p fun c => { c with rx := r.1 })).bind (moduleBytes p rest)

/-- A gap on a module line sets no flag (07 R141). -/
def moduleGap (p : Port) (s : State) : State := s.onPort p fun c => { c with rx := .hunting }

/-- A whole good frame with a notice on a module line; one unknown or malformed is discarded (07 R143). -/
def moduleNotice (p : Port) (n : Option Notice) (s : State) : Option State :=
  let s1 := s.onPort p fun c => { c with rx := .hunting }
  match n with
  | some x => takeNotice p x s1
  | none => some s1

/-! ## The sending side (10 R185, R194) -/

/-- The frame is the OK reply of a RESET (10 R194). -/
def isResetReply (f : OutFrame) : Bool :=
  match f with
  | .reply r => r.type == 0x96 && r.code == .ok
  | .report _ => false

/-- The last byte of the head frame leaves: a LINK reset after an accepted RESET's reply, else the next
frame begins to leave and requests are taken (10 R184 to R186, R194). -/
def frameSent (s : State) : Option State :=
  match s.link.outbound with
  | [] => some s
  | f :: rest =>
    if s.link.resetPending && isResetReply f then some (startUp .link s)
    else serveWaiting (s.onLink fun l => captureFlags { l with outbound := rest })

/-! ## The end of a COMMIT_CONFIG (11 R196) -/

/-- The store's final event: verified, the mark is set and the reply carries the CRC; else the mark stays
clear. The next request is taken in the same event (10 R193). -/
def commitEnds (verified : Bool) (s : State) : Option State :=
  match s.store.writing with
  | none => some s
  | some image =>
    let crc := imageCrc image
    let s1 : State := { s with store := ⟨verified, image, crc, none⟩ }
    serveWaiting
      (if verified then placeReply 0x95 .ok (.imageCrc crc) s1 else placeReply 0x95 .storeFailed .none s1)

end Sys2Proof.Machine
end

