-- ==== Sys2Proof/Machine/Timers.lean ====
section
/-! DEFINITION. Time: the coordinator's own due events, and the one-second tick (00, Terms; log 2). -/

namespace Sys2Proof.Machine

/-- An event the coordinator itself schedules; each is a row of the opcode table. -/
inductive DueEvent where
  | entryAged (slot : TableSlot)
  | periodEnd
  | compareMatch (point : Port)
  | orderTimeout (port : Port)
  | wakeTimeout (port : Port)
  | sleepTimeout (port : Port)
  | silenceTimeout (port : Port)
  | portRestart (port : Port)
  | policySleep (port : Port)
  | keepWarmWake (port : Port)
  | waitExpiry
  | ringTimeout
  | callbackWindowExpiry
  | conversionStart
  | campaignIdleNotice
  deriving DecidableEq, Repr

/-- The order in flight of a port stands at 0 and is of a kind. -/
def timedOut (s : State) (p : Port) (kind : OrderKind → Bool) : Bool :=
  (s.port p).inFlight.any fun f => f.timer == 0 && kind f.order.kind

/-- The kind is WAKE. -/
def OrderKind.isWake : OrderKind → Bool
  | .wake _ => true
  | .sleep | .scan | .attach .. | .detach | .dial _ | .answer | .hangup | .refuse | .sendData _ => false

/-- The kind is SLEEP. -/
def OrderKind.isSleep : OrderKind → Bool
  | .sleep => true
  | .wake _ | .scan | .attach .. | .detach | .dial _ | .answer | .hangup | .refuse | .sendData _ => false

/-- The event is due: its timer has come to 0, or its tick's test holds. An entry that the tick found aged and
that has been sampled or held since is kept, as its test is made again here (01 R6; log 2). One note of the tick
serves a port's restart, sleep and keep-warm tests, and the row acts on the test that holds when it is taken, be
it another of the three than the one the tick found (06 R130, R134, R135; log 2). -/
def isDue (s : State) : DueEvent → Bool
  | .entryAged slot => s.table.agedDue.contains slot && (s.table.entry slot).any Entry.aged
  | .periodEnd => s.survey.periodEndDue
  | .compareMatch p => s.survey.matchDue.get p
  | .orderTimeout p => timedOut s p fun k => !k.isWake && !k.isSleep
  | .wakeTimeout p => timedOut s p OrderKind.isWake
  | .sleepTimeout p => timedOut s p OrderKind.isSleep
  | .silenceTimeout p => (s.port p).silenceTimer == some 0
  | .portRestart p => (s.port p).tickDue && restartTest s p
  | .policySleep p => (s.port p).tickDue && sleepTest s p
  | .keepWarmWake p => (s.port p).tickDue && wakeTest s p
  | .waitExpiry => s.campaign.waitTimer == some 0
  | .ringTimeout => s.campaign.ringTimer == some 0
  | .callbackWindowExpiry => s.campaign.windowTimer == some 0
  | .conversionStart => s.supply.interval == 0
  | .campaignIdleNotice => decide (0 < s.supply.idleNotices)

/-- An aged entry is freed (01 R6). -/
def freeAged (slot : TableSlot) (s : State) : State :=
  freeSlot slot .aged (s.onTable fun t => { t with agedDue := t.agedDue.filter (· != slot) })

/-- What a due event does. -/
def takeDue (s : State) : DueEvent → Option State
  | .entryAged slot => some (freeAged slot s)
  | .periodEnd => some (periodEnds s)
  | .compareMatch p => some (compareMatches p s)
  | .orderTimeout p => enterFault p false .timeout s
  | .wakeTimeout p => wakeTimesOut p s
  | .sleepTimeout p => some (sleepTimesOut p s)
  | .silenceTimeout p => enterFault p false .silent s
  | .portRestart p => some (restartPort p s)
  | .policySleep p => some (policySleep p s)
  | .keepWarmWake p => some (keepWarmWake p s)
  | .waitExpiry => waitExpires s
  | .ringTimeout => some (ringExpires s)
  | .callbackWindowExpiry => some (windowExpires s)
  | .conversionStart => some (conversionStarts s)
  | .campaignIdleNotice => some (takeIdleNotice s)

/-- Take an event that is due; one that is not leaves everything as it is (log 3). -/
def takeIfDue (e : DueEvent) (s : State) : Option State := if isDue s e then takeDue s e else some s

/-- Every event of one tick, in the order in which TICK takes those still due (log 35). -/
def dueOrder : List DueEvent :=
  tableSlots.map .entryAged ++ [.periodEnd] ++ portList.map .compareMatch
    ++ portList.flatMap (fun p =>
        [.orderTimeout p, .wakeTimeout p, .sleepTimeout p, .silenceTimeout p])
    ++ portList.flatMap (fun p => [.portRestart p, .policySleep p, .keepWarmWake p])
    ++ [.waitExpiry, .ringTimeout, .callbackWindowExpiry, .conversionStart, .campaignIdleNotice]

/-- Take the events of a list that are due, in turn. -/
def settle : List DueEvent → State → Option State
  | [], s => some s
  | e :: rest, s => (takeIfDue e s).bind (settle rest)

/-- One second on a campaign context (03 R53, R68; 02 R36; 03 R63, R80). -/
def campaignSecond (c : Campaign) : Campaign :=
  { c with
    seconds := if c.active then countUp 65535 c.seconds else c.seconds
    attempt := c.attempt.map fun t =>
      if t.stage = .connected then { t with talk := t.talk.map (countUp 65535) } else t
    ringTimer := timerDown c.ringTimer
    waitTimer := timerDown c.waitTimer
    windowTimer := timerDown c.windowTimer }

/-- One second on a port context (06 R119, R124, R130). -/
def portSecond (c : PortContext) : PortContext :=
  { c with
    inFlight := c.inFlight.map fun f => { f with timer := f.timer - 1 }
    silenceTimer := timerDown c.silenceTimer
    restartTimer := timerDown c.restartTimer }

/-- The tests a tick makes of each port (06 R130, R134, R135). -/
def portTests (s : State) (p : Port) : Bool := restartTest s p || sleepTest s p || wakeTest s p

/-- Note the ports of which one of the three tests holds at this tick, not which of them (log 2). -/
def noteTests (s : State) : State :=
  { s with ports := PerPort.build fun p => { s.port p with tickDue := portTests s p } }

/-- One second on everything that counts seconds (01 R12, 03 R53, 06, 08 R154, 09 R167). -/
def countSecond (s : State) : State :=
  let s1 := (ageTable s).onCampaign campaignSecond
  let s2 := { s1 with ports := s1.ports.map portSecond }
  let s3 := (surveyTick s2).onSupply fun m => { m with interval := m.interval - 1 }
  noteTests s3

/-- The tick: what is still due of the last one is taken, then the second is counted (log 2). -/
def tickSecond (s : State) : Option State := (settle dueOrder s).map countSecond

/-- Nothing is due. -/
def Quiet (s : State) : Bool := dueOrder.all fun e => !isDue s e

end Sys2Proof.Machine
end

