-- ==== Sys2Proof/Machine/Results.lean ====
section
/-! DEFINITION. From an event's state to a step's outcome, and the arrival of a request on the host line. -/

namespace Sys2Proof.Machine

/-- An event that ends gives the next state; one whose chain never ends is a stuck state (log 11). -/
def outcomeOf (r : Option State) : Host.Outcome State Fault Refusal :=
  match r with
  | some s => .next s
  | none => .fault .eventNeverEnds

/-- The arrival of a good frame with a request on the host line: it joins the inbound queue and is taken in
the first event in which that can be (10 R183, R186; log 4). -/
def requestArrives (r : Request) (s : State) : Option State := hostFrame (encodeRequest r) s

end Sys2Proof.Machine
end

