-- ==== Sys2Proof/Machine/LineRows.lean ====
section
/-! DEFINITION. The rows of the lines: bytes and gaps, frames sent, unknown frames, the store's final event. -/

namespace Sys2Proof.Machine

/-- HOST_FRAME_RECEIVED (10 R181): bytes on the host line. -/
def execHostFrameReceived (bytes : List Byte) (s : State) : Host.Outcome State Fault Refusal :=
  outcomeOf (hostBytes bytes s)

/-- RECEIVE_GAP (10 R181). -/
def execReceiveGap (s : State) : Host.Outcome State Fault Refusal :=
  .next (hostGap s)

/-- OUTBOUND_FRAME_SENT (10 R185, R194). -/
def execOutboundFrameSent (s : State) : Host.Outcome State Fault Refusal :=
  outcomeOf (frameSent s)

/-- MODULE_FRAME_ERROR (07 R141): bytes on a module line. -/
def execModuleFrameError (port : Port) (bytes : List Byte) (s : State) : Host.Outcome State Fault Refusal :=
  outcomeOf (moduleBytes port bytes s)

/-- MODULE_RECEIVE_GAP (07 R141). -/
def execModuleReceiveGap (port : Port) (s : State) : Host.Outcome State Fault Refusal :=
  .next (moduleGap port s)

/-- UNKNOWN_NOTICE (07 R143): a good frame on a module line, read as its bytes say (log 6). -/
def execUnknownNotice (port : Port) (type : Byte) (payload : List Byte) (s : State) : Host.Outcome State Fault Refusal :=
  outcomeOf (moduleNotice port (parseNotice ⟨type, payload⟩) s)

/-- UNKNOWN_REQUEST (10 R186): a good frame on the host line, read as its bytes say (log 6). -/
def execUnknownRequest (type : Byte) (payload : List Byte) (s : State) : Host.Outcome State Fault Refusal :=
  outcomeOf (hostFrame ⟨type, payload⟩ s)

/-- COMMIT_DONE (11 R196): the store's final event, with what the read-back found (log 32). -/
def execCommitDone (verified : Bool) (s : State) : Host.Outcome State Fault Refusal :=
  outcomeOf (commitEnds verified s)

end Sys2Proof.Machine
end

