-- ==== Sys2Proof/Machine/NoticeRows.lean ====
section
/-! DEFINITION. The rows of the notices: a good frame with the notice completes on a port's module line (log 5). -/

namespace Sys2Proof.Machine

/-- WAKE_DONE (06 R120). -/
def execWakeDone (port : Port) (s : State) : Host.Outcome State Fault Refusal :=
  outcomeOf (moduleNotice port (some .wakeDone) s)

/-- SLEEP_DONE (06 R133). -/
def execSleepDone (port : Port) (s : State) : Host.Outcome State Fault Refusal :=
  outcomeOf (moduleNotice port (some .sleepDone) s)

/-- SCAN_RESULT (01 R10). -/
def execScanResult (port : Port) (networks : List NetworkGroup) (s : State) : Host.Outcome State Fault Refusal :=
  outcomeOf (moduleNotice port (readScan networks) s)

/-- ATTACH_RESULT (06 R121). -/
def execAttachResult (port : Port) (result cause : Byte) (s : State) : Host.Outcome State Fault Refusal :=
  outcomeOf (moduleNotice port (some (readAttach result cause)) s)

/-- DETACH_DONE (06 R121). -/
def execDetachDone (port : Port) (s : State) : Host.Outcome State Fault Refusal :=
  outcomeOf (moduleNotice port (some .detachDone) s)

/-- CALL_PROGRESS of ALERTING (03 R62). -/
def execCallProgressAlerting (port : Port) (s : State) : Host.Outcome State Fault Refusal :=
  outcomeOf (moduleNotice port (some .alerting) s)

/-- CALL_PROGRESS of CONNECTED (03 R68, R78). -/
def execCallProgressConnected (port : Port) (s : State) : Host.Outcome State Fault Refusal :=
  outcomeOf (moduleNotice port (some .connected) s)

/-- CALL_ENDED (03 R64, 06 R126). -/
def execCallEnded (port : Port) (cause moduleCause : Byte) (s : State) : Host.Outcome State Fault Refusal :=
  outcomeOf (moduleNotice port (some (readCallEnded cause moduleCause)) s)

/-- INCOMING (06 R127, 03 R75). -/
def execIncoming (port : Port) (digits : Option (List Byte)) (s : State) : Host.Outcome State Fault Refusal :=
  outcomeOf (moduleNotice port (some (.incoming (callerDigits digits))) s)

/-- SERVING_LEVEL (01 R11, 06 R124). -/
def execServingLevel (port : Port) (level quality : Byte) (s : State) : Host.Outcome State Fault Refusal :=
  outcomeOf (moduleNotice port (some (.servingLevel level quality)) s)

/-- DATA_RESULT (03 R70). -/
def execDataResult (port : Port) (result : Byte) (s : State) : Host.Outcome State Fault Refusal :=
  outcomeOf (moduleNotice port (some (readData result)) s)

/-- MODULE_ALERT of kind FAULT (06 R128). -/
def execModuleAlertFault (port : Port) (s : State) : Host.Outcome State Fault Refusal :=
  outcomeOf (moduleNotice port (some .alertFault) s)

/-- MODULE_ALERT of kind REGISTRATION_LOST (06 R128). -/
def execModuleAlertRegistrationLost (port : Port) (s : State) : Host.Outcome State Fault Refusal :=
  outcomeOf (moduleNotice port (some .alertRegistrationLost) s)

end Sys2Proof.Machine
end

