-- ==== Sys2Proof/Machine/RequestRows.lean ====
section
/-! DEFINITION. The rows of the requests: each is the arrival of a good frame with that request (log 4). -/

namespace Sys2Proof.Machine

/-- STATUS (10 R188). -/
def execStatus (s : State) : Host.Outcome State Fault Refusal :=
  outcomeOf (requestArrives .status s)

/-- START_CALL (03 R57). -/
def execStartCall (s : State) : Host.Outcome State Fault Refusal :=
  outcomeOf (requestArrives .startCall s)

/-- END_CALL (03 R73). -/
def execEndCall (s : State) : Host.Outcome State Fault Refusal :=
  outcomeOf (requestArrives .endCall s)

/-- SET_TUNING (10 R189). -/
def execSetTuning (args : TuningArgs) (s : State) : Host.Outcome State Fault Refusal :=
  outcomeOf (requestArrives (.setTuning args) s)

/-- SET_SUPPLY (09 R169). -/
def execSetSupply (args : SupplyArgs) (s : State) : Host.Outcome State Fault Refusal :=
  outcomeOf (requestArrives (.setSupply args) s)

/-- SET_SURVEY (08 R159). -/
def execSetSurvey (args : SurveyArgs) (s : State) : Host.Outcome State Fault Refusal :=
  outcomeOf (requestArrives (.setSurvey args) s)

/-- SURVEY_HOLD, action HOLD (08 R162). -/
def execSurveyHold (s : State) : Host.Outcome State Fault Refusal :=
  outcomeOf (requestArrives .surveyHold s)

/-- SURVEY_HOLD, action RELEASE (08 R162). -/
def execSurveyRelease (s : State) : Host.Outcome State Fault Refusal :=
  outcomeOf (requestArrives .surveyRelease s)

/-- SURVEY_NOW (08 R165). -/
def execSurveyNow (ports : Byte) (s : State) : Host.Outcome State Fault Refusal :=
  outcomeOf (requestArrives (.surveyNow ports) s)

/-- LOAD_STEPS (02 R49, R50). -/
def execLoadSteps (first : Byte) (records : List StepBytes) (s : State) : Host.Outcome State Fault Refusal :=
  outcomeOf (requestArrives (.loadSteps first records) s)

/-- LOAD_DESTINATION (02 R47). -/
def execLoadDestination (number : Byte) (digits : List Byte) (dataFlag : Byte) (s : State) : Host.Outcome State Fault Refusal :=
  outcomeOf (requestArrives (.loadDestination number digits dataFlag) s)

/-- SET_PREFERENCES (01 R15). -/
def execSetPreferences (records : List PreferenceBytes) (s : State) : Host.Outcome State Fault Refusal :=
  outcomeOf (requestArrives (.setPreferences records) s)

/-- SET_BOX_RECORD (02 R48). -/
def execSetBoxRecord (identity location : List Byte) (s : State) : Host.Outcome State Fault Refusal :=
  outcomeOf (requestArrives (.setBoxRecord identity location) s)

/-- READ_TABLE by slot (01 R26). -/
def execReadTableBySlot (first count : Byte) (s : State) : Host.Outcome State Fault Refusal :=
  outcomeOf (requestArrives (.readTableBySlot first count) s)

/-- READ_TABLE in ranked order (01 R26). -/
def execReadTableRanked (position count : Byte) (s : State) : Host.Outcome State Fault Refusal :=
  outcomeOf (requestArrives (.readTableRanked position count) s)

/-- READ_PLAN, selector STEPS (02 R52). -/
def execReadPlanSteps (first count : Byte) (s : State) : Host.Outcome State Fault Refusal :=
  outcomeOf (requestArrives (.readPlanSteps first count) s)

/-- READ_PLAN, selector DESTINATION (02 R52). -/
def execReadPlanDestination (number : Byte) (s : State) : Host.Outcome State Fault Refusal :=
  outcomeOf (requestArrives (.readPlanDestination number) s)

/-- READ_PLAN, selector BOX (02 R52). -/
def execReadPlanBox (s : State) : Host.Outcome State Fault Refusal :=
  outcomeOf (requestArrives .readPlanBox s)

/-- READ_LOG, selector RECORDS (05 R112). -/
def execReadLogRecords (position count : Byte) (s : State) : Host.Outcome State Fault Refusal :=
  outcomeOf (requestArrives (.readLogRecords position count) s)

/-- READ_LOG, selector SUMMARY (05 R113). -/
def execReadLogSummary (s : State) : Host.Outcome State Fault Refusal :=
  outcomeOf (requestArrives .readLogSummary s)

/-- READ_PENDING (10 R192). -/
def execReadPending (s : State) : Host.Outcome State Fault Refusal :=
  outcomeOf (requestArrives .readPending s)

/-- SET_REPORTS (10 R191). -/
def execSetReports (mask : Byte) (s : State) : Host.Outcome State Fault Refusal :=
  outcomeOf (requestArrives (.setReports mask) s)

/-- PORT_CONTROL, action DISABLE (06 R137). -/
def execPortControlDisable (port : Byte) (s : State) : Host.Outcome State Fault Refusal :=
  outcomeOf (requestArrives (.portControlDisable port) s)

/-- PORT_CONTROL, action ENABLE (06 R138). -/
def execPortControlEnable (port : Byte) (s : State) : Host.Outcome State Fault Refusal :=
  outcomeOf (requestArrives (.portControlEnable port) s)

/-- CLEAR_ATTENTION (06 R139). -/
def execClearAttention (ports : Byte) (s : State) : Host.Outcome State Fault Refusal :=
  outcomeOf (requestArrives (.clearAttention ports) s)

/-- CLEAR_TABLE (01 R25). -/
def execClearTable (s : State) : Host.Outcome State Fault Refusal :=
  outcomeOf (requestArrives .clearTable s)

/-- COMMIT_CONFIG (11 R196). -/
def execCommitConfig (s : State) : Host.Outcome State Fault Refusal :=
  outcomeOf (requestArrives .commitConfig s)

/-- RESET (10 R194). -/
def execReset (force : Byte) (s : State) : Host.Outcome State Fault Refusal :=
  outcomeOf (requestArrives (.reset force) s)

end Sys2Proof.Machine
end

