-- ==== Sys2Proof/Machine/ResetRows.lean ====
section
/-! DEFINITION. The rows of the resets and the CALL line: POWER_ON_RESET, PIN_RESET, CALL_PRESS, CALL_LINE_RELEASE. -/

namespace Sys2Proof.Machine

/-- POWER_ON_RESET (11 R198): the straps are read and start-up runs. -/
def execPowerOnReset (straps : Straps) (s : State) : Host.Outcome State Fault Refusal :=
  .next (startUp .powerOn { s with straps := straps })

/-- PIN_RESET (11 R198): the straps are read and start-up runs. -/
def execPinReset (straps : Straps) (s : State) : Host.Outcome State Fault Refusal :=
  .next (startUp .pin { s with straps := straps })

/-- CALL_PRESS (03 R55, R56): taken when the detector is armed, which it then is not. -/
def execCallPress (s : State) : Host.Outcome State Fault Refusal :=
  if s.armed then outcomeOf (takePress { s with armed := false }) else .next s

/-- CALL_LINE_RELEASE (03 R55): the line has been released for 50 ms. -/
def execCallLineRelease (s : State) : Host.Outcome State Fault Refusal :=
  .next { s with armed := true }

end Sys2Proof.Machine
end

