-- ==== Sys2Proof/Machine/TimeRows.lean ====
section
/-! DEFINITION. The rows of time: TICK, the coordinator's own due events, and CONVERSION_DONE. A row whose event is not
due changes nothing (log 3). -/

namespace Sys2Proof.Machine

/-- TICK (01 R12 and every rule that counts seconds). -/
def execTick (s : State) : Host.Outcome State Fault Refusal :=
  outcomeOf (tickSecond s)

/-- ENTRY_AGED (01 R6). -/
def execEntryAged (slot : TableSlot) (s : State) : Host.Outcome State Fault Refusal :=
  outcomeOf (takeIfDue (.entryAged slot) s)

/-- WAIT_EXPIRY (02 R36). -/
def execWaitExpiry (s : State) : Host.Outcome State Fault Refusal :=
  outcomeOf (takeIfDue .waitExpiry s)

/-- RING_TIMEOUT (03 R63). -/
def execRingTimeout (s : State) : Host.Outcome State Fault Refusal :=
  outcomeOf (takeIfDue .ringTimeout s)

/-- CALLBACK_WINDOW_EXPIRY (03 R80). -/
def execCallbackWindowExpiry (s : State) : Host.Outcome State Fault Refusal :=
  outcomeOf (takeIfDue .callbackWindowExpiry s)

/-- ORDER_TIMEOUT (06 R123). -/
def execOrderTimeout (port : Port) (s : State) : Host.Outcome State Fault Refusal :=
  outcomeOf (takeIfDue (.orderTimeout port) s)

/-- WAKE_TIMEOUT (06 R132). -/
def execWakeTimeout (port : Port) (s : State) : Host.Outcome State Fault Refusal :=
  outcomeOf (takeIfDue (.wakeTimeout port) s)

/-- SLEEP_TIMEOUT (06 R133). -/
def execSleepTimeout (port : Port) (s : State) : Host.Outcome State Fault Refusal :=
  outcomeOf (takeIfDue (.sleepTimeout port) s)

/-- SILENCE_TIMEOUT (06 R124). -/
def execSilenceTimeout (port : Port) (s : State) : Host.Outcome State Fault Refusal :=
  outcomeOf (takeIfDue (.silenceTimeout port) s)

/-- PORT_RESTART (06 R130). -/
def execPortRestart (port : Port) (s : State) : Host.Outcome State Fault Refusal :=
  outcomeOf (takeIfDue (.portRestart port) s)

/-- POLICY_SLEEP (06 R134). -/
def execPolicySleep (port : Port) (s : State) : Host.Outcome State Fault Refusal :=
  outcomeOf (takeIfDue (.policySleep port) s)

/-- KEEP_WARM_WAKE (06 R135). -/
def execKeepWarmWake (port : Port) (s : State) : Host.Outcome State Fault Refusal :=
  outcomeOf (takeIfDue (.keepWarmWake port) s)

/-- PERIOD_END (08 R155). -/
def execPeriodEnd (s : State) : Host.Outcome State Fault Refusal :=
  outcomeOf (takeIfDue .periodEnd s)

/-- COMPARE_MATCH (08 R156). -/
def execCompareMatch (point : Port) (s : State) : Host.Outcome State Fault Refusal :=
  outcomeOf (takeIfDue (.compareMatch point) s)

/-- CONVERSION_START (09 R167). -/
def execConversionStart (s : State) : Host.Outcome State Fault Refusal :=
  outcomeOf (takeIfDue .conversionStart s)

/-- CAMPAIGN_IDLE_NOTICE (09 R175). -/
def execCampaignIdleNotice (s : State) : Host.Outcome State Fault Refusal :=
  outcomeOf (takeIfDue .campaignIdleNotice s)

/-- CONVERSION_DONE (09 R168): v is four times the converter's code. -/
def execConversionDone (code : BitVec 12) (s : State) : Host.Outcome State Fault Refusal :=
  if s.supply.converting then .next (conversionCompletes (4 * code.toNat) s) else .next s

end Sys2Proof.Machine
end

