-- ==== Sys2Proof/Machine/Dispatch.lean ====
section
/-! DEFINITION. The dispatch: one arm per command, each one direct call of its meaning. -/

namespace Sys2Proof.Machine

def exec (i : Instr) (s : State) : Host.Outcome State Fault Refusal :=
  match i with
  | .powerOnReset straps => Sys2Proof.Machine.execPowerOnReset straps s
  | .pinReset straps => Sys2Proof.Machine.execPinReset straps s
  | .callPress => Sys2Proof.Machine.execCallPress s
  | .tick => Sys2Proof.Machine.execTick s
  | .entryAged slot => Sys2Proof.Machine.execEntryAged slot s
  | .waitExpiry => Sys2Proof.Machine.execWaitExpiry s
  | .ringTimeout => Sys2Proof.Machine.execRingTimeout s
  | .callbackWindowExpiry => Sys2Proof.Machine.execCallbackWindowExpiry s
  | .orderTimeout port => Sys2Proof.Machine.execOrderTimeout port s
  | .wakeTimeout port => Sys2Proof.Machine.execWakeTimeout port s
  | .sleepTimeout port => Sys2Proof.Machine.execSleepTimeout port s
  | .silenceTimeout port => Sys2Proof.Machine.execSilenceTimeout port s
  | .portRestart port => Sys2Proof.Machine.execPortRestart port s
  | .policySleep port => Sys2Proof.Machine.execPolicySleep port s
  | .keepWarmWake port => Sys2Proof.Machine.execKeepWarmWake port s
  | .periodEnd => Sys2Proof.Machine.execPeriodEnd s
  | .compareMatch point => Sys2Proof.Machine.execCompareMatch point s
  | .conversionStart => Sys2Proof.Machine.execConversionStart s
  | .conversionDone code => Sys2Proof.Machine.execConversionDone code s
  | .campaignIdleNotice => Sys2Proof.Machine.execCampaignIdleNotice s
  | .hostFrameReceived bytes => Sys2Proof.Machine.execHostFrameReceived bytes s
  | .receiveGap => Sys2Proof.Machine.execReceiveGap s
  | .outboundFrameSent => Sys2Proof.Machine.execOutboundFrameSent s
  | .moduleFrameError port bytes => Sys2Proof.Machine.execModuleFrameError port bytes s
  | .unknownNotice port type payload => Sys2Proof.Machine.execUnknownNotice port type payload s
  | .wakeDone port => Sys2Proof.Machine.execWakeDone port s
  | .sleepDone port => Sys2Proof.Machine.execSleepDone port s
  | .scanResult port networks => Sys2Proof.Machine.execScanResult port networks s
  | .attachResult port result cause => Sys2Proof.Machine.execAttachResult port result cause s
  | .detachDone port => Sys2Proof.Machine.execDetachDone port s
  | .callProgressAlerting port => Sys2Proof.Machine.execCallProgressAlerting port s
  | .callProgressConnected port => Sys2Proof.Machine.execCallProgressConnected port s
  | .callEnded port cause moduleCause => Sys2Proof.Machine.execCallEnded port cause moduleCause s
  | .incoming port digits => Sys2Proof.Machine.execIncoming port digits s
  | .servingLevel port level quality => Sys2Proof.Machine.execServingLevel port level quality s
  | .dataResult port result => Sys2Proof.Machine.execDataResult port result s
  | .moduleAlertFault port => Sys2Proof.Machine.execModuleAlertFault port s
  | .moduleAlertRegistrationLost port => Sys2Proof.Machine.execModuleAlertRegistrationLost port s
  | .status => Sys2Proof.Machine.execStatus s
  | .startCall => Sys2Proof.Machine.execStartCall s
  | .endCall => Sys2Proof.Machine.execEndCall s
  | .setTuning args => Sys2Proof.Machine.execSetTuning args s
  | .setSupply args => Sys2Proof.Machine.execSetSupply args s
  | .setSurvey args => Sys2Proof.Machine.execSetSurvey args s
  | .surveyHold => Sys2Proof.Machine.execSurveyHold s
  | .surveyRelease => Sys2Proof.Machine.execSurveyRelease s
  | .surveyNow ports => Sys2Proof.Machine.execSurveyNow ports s
  | .loadSteps first records => Sys2Proof.Machine.execLoadSteps first records s
  | .loadDestination number digits dataFlag => Sys2Proof.Machine.execLoadDestination number digits dataFlag s
  | .setPreferences records => Sys2Proof.Machine.execSetPreferences records s
  | .setBoxRecord identity location => Sys2Proof.Machine.execSetBoxRecord identity location s
  | .readTableBySlot first count => Sys2Proof.Machine.execReadTableBySlot first count s
  | .readTableRanked position count => Sys2Proof.Machine.execReadTableRanked position count s
  | .readPlanSteps first count => Sys2Proof.Machine.execReadPlanSteps first count s
  | .readPlanDestination number => Sys2Proof.Machine.execReadPlanDestination number s
  | .readPlanBox => Sys2Proof.Machine.execReadPlanBox s
  | .readLogRecords position count => Sys2Proof.Machine.execReadLogRecords position count s
  | .readLogSummary => Sys2Proof.Machine.execReadLogSummary s
  | .readPending => Sys2Proof.Machine.execReadPending s
  | .setReports mask => Sys2Proof.Machine.execSetReports mask s
  | .portControlDisable port => Sys2Proof.Machine.execPortControlDisable port s
  | .portControlEnable port => Sys2Proof.Machine.execPortControlEnable port s
  | .clearAttention ports => Sys2Proof.Machine.execClearAttention ports s
  | .clearTable => Sys2Proof.Machine.execClearTable s
  | .commitConfig => Sys2Proof.Machine.execCommitConfig s
  | .commitDone verified => Sys2Proof.Machine.execCommitDone verified s
  | .reset force => Sys2Proof.Machine.execReset force s
  | .unknownRequest type payload => Sys2Proof.Machine.execUnknownRequest type payload s
  | .moduleReceiveGap port => Sys2Proof.Machine.execModuleReceiveGap port s
  | .callLineRelease => Sys2Proof.Machine.execCallLineRelease s

end Sys2Proof.Machine
end

