-- ==== Sys2Proof/Machine/Layout.lean ====
section
/-! DEFINITION. The bytes the coordinator sends (10 R180, R187, section 10.7): replies, reports, orders and
their frames. Readings of the layout steps that the manual leaves open are in log 21. -/

namespace Sys2Proof.Machine

/-! ## Fields (10 section 10.7, Other payloads) -/

/-- A field that may be absent: a presence byte, then the field or as many zeros (step 1). -/
def optField {α : Type} (width : Nat) (bytes : α → List Byte) : Option α → List Byte
  | some a => 1 :: bytes a
  | none => 0 :: List.replicate width 0

/-- A number of one byte that may be absent. -/
def optNumber8 : Option Nat → List Byte := optField 1 fun n => [byteOf n]

/-- A number of two bytes that may be absent. -/
def optNumber16 : Option Nat → List Byte := optField 2 numberBytes

/-- A list: a count byte and the items (step 3). -/
def listBytes {α : Type} (item : α → List Byte) (l : List α) : List Byte := byteOf l.length :: l.flatMap item

/-- An operator code: three bytes (step 5). -/
def operatorBytes (n : Nat) : List Byte := code24Bytes (BitVec.ofNat 24 n)

/-- An average of the Network Table: two signed bytes (step 5). -/
def averageBytes (n : Int) : List Byte := wordBytes (BitVec.ofInt 16 n)

/-- One field for each of P0 to P3. -/
def fourBytes {α : Type} (item : α → List Byte) (v : PerPort α) : List Byte :=
  item v.p0 ++ item v.p1 ++ item v.p2 ++ item v.p3

/-- A port as 0 to 3. -/
def portByte (p : Port) : Byte := byteOf (portNumber p)

/-- A port that may be absent. -/
def optPort : Option Port → List Byte := optField 1 fun p => [portByte p]

/-! ## Named values (step 7) -/

/-- The class codes. -/
def AccessClass.toByte : AccessClass → Byte
  | .legacy => 1
  | .wide => 2
  | .packet => 3

/-- A preference: 0 to 3, FFh for BAR. -/
def Preference.toByte : Preference → Byte
  | .bar => 0xFF
  | .weight n => byteOf n.val

/-- The line rate. -/
def rateByte : LineRate → Byte
  | .baud19200 => 1
  | .baud115200 => 2

/-- Campaign states, in the order of 03 section 3.1. -/
def CampaignState.toByte : CampaignState → Byte
  | .idle => 1
  | .prepare => 2
  | .dial => 3
  | .ring => 4
  | .talk => 5
  | .pause => 6
  | .resurvey => 7
  | .release => 8
  | .callback => 9

/-- Phases, in the order of 03 section 3.1. -/
def Phase.toByte : Phase → Byte
  | .plan => 1
  | .recovery => 2
  | .lastResort => 3

/-- Campaign origins. -/
def CampaignOrigin.toByte : CampaignOrigin → Byte
  | .button => 1
  | .host => 2
  | .incoming => 3

/-- Campaign outcomes. -/
def CampaignOutcome.toByte : CampaignOutcome → Byte
  | .completed => 1
  | .cancelled => 2
  | .failed => 3

/-- Try origins (Attempt record table). -/
def TryOrigin.toByte : TryOrigin → Byte
  | .plan => 1
  | .recovery => 2
  | .lastResort => 3
  | .callback => 4
  | .incoming => 5

/-- Outcomes (Attempt record table). -/
def TryOutcome.toByte : TryOutcome → Byte
  | .cleared => 1
  | .endedByBox => 2
  | .dropped => 3
  | .attachFailed => 4
  | .rejected => 5
  | .busy => 6
  | .noAnswer => 7
  | .portFailed => 8
  | .aborted => 9
  | .emptyDestination => 10
  | .noCandidate => 11

/-- Data outcomes of a record; a record carries no PENDING (05 R105). -/
def DataOutcome.toByte : DataOutcome → Byte
  | .pending => 0
  | .sent => 1
  | .failed => 2

/-- Plan fault kinds (02 R45). -/
def PlanFaultKind.toByte : PlanFaultKind → Byte
  | .loop => 1
  | .stackFull => 2

/-- The standby's statuses in a STANDBY report: PREPARING, READY, CLEARED (04 R84). -/
def standbyStatusByte : Option StandbyStatus → Byte
  | some .preparing => 1
  | some .ready => 2
  | none => 3

/-- Reasons of R87. -/
def StandbyReason.toByte : StandbyReason → Byte
  | .portLost => 1
  | .entryLost => 2
  | .attachFailed => 3
  | .portCall => 4
  | .supply => 5
  | .disabled => 6
  | .callEnded => 7

/-- Power states (06 section 6.1). -/
def Power.toByte : Power → Byte
  | .disabled => 1
  | .off => 2
  | .waking => 3
  | .on => 4
  | .sleeping => 5
  | .fault => 6
  | .dead => 7

/-- Call states (06 section 6.1). -/
def CallState.toByte : CallState → Byte
  | .none => 1
  | .dialing => 2
  | .alerting => 3
  | .connected => 4
  | .offered => 5
  | .answering => 6
  | .clearing => 7

/-- Causes of a FAULT or DEAD report (06 R140). -/
def FaultCause.toByte : FaultCause → Byte
  | .timeout => 1
  | .silent => 2
  | .moduleFault => 3

/-- Supply modes. -/
def SupplyMode.toByte : SupplyMode → Byte
  | .normal => 1
  | .low => 2
  | .shed => 3
  | .cutoff => 4

/-- Power policies. -/
def Policy.toByte : Policy → Byte
  | .keepWarm => 1
  | .onDemand => 2

/-- Reset kinds (11 R200). -/
def ResetKind.toByte : ResetKind → Byte
  | .powerOn => 1
  | .pin => 2
  | .link => 3
  | .supply => 4

/-- Causes of a FREED report. -/
def FreeCause.toByte : FreeCause → Byte
  | .aged => 1
  | .evicted => 2

/-- Reply codes (10 R187). -/
def ReplyCode.toByte : ReplyCode → Byte
  | .ok => 0
  | .busy => 1
  | .badArgument => 2
  | .unknown => 3
  | .notActive => 4
  | .power => 5
  | .storeFailed => 6

/-- Refusals of an order (08 R165): UNAVAILABLE, QUEUE_FULL. -/
def SubmitAnswer.toByte : SubmitAnswer → Byte
  | .accepted => 0
  | .unavailable => 1
  | .queueFull => 2

/-- Reasons of a skipped match (08 R156). -/
def SkipReason.toByte : SkipReason → Byte
  | .disabled => 1
  | .unavailable => 2
  | .supply => 3
  | .campaign => 4
  | .queueFull => 5

/-- A match record with the place of a skip's reason. -/
def matchRecordBytes : MatchRecord → List Byte
  | .none => [1, 0]
  | .submitted => [2, 0]
  | .completed => [3, 0]
  | .dropped => [4, 0]
  | .skipped r => [5, r.toByte]

/-! ## Records -/

/-- A network: operator and class. -/
def netBytes (n : NetworkId) : List Byte := operatorBytes n.operator ++ [n.cls.toByte]

/-- An attachment with places for the operands of its longest choice. -/
def attachmentBytes : Attachment → List Byte
  | .none => [1, 0, 0, 0, 0]
  | .attaching entry _ => [2, byteOf entry.val, 0, 0, 0]
  | .attached net => 3 :: netBytes net
  | .detaching => [4, 0, 0, 0, 0]

/-- A step record in its stored form, fields its action does not use zero (02 R27). -/
def stepRecordBytes : PlanStep → List Byte
  | .dial d f tries more => [1, flagByte more, byteOf d.val, f.toByte, byteOf tries]
  | .wait seconds more => [2, flagByte more, byteOf seconds, 0, 0]
  | .resurvey more => [3, flagByte more, 0, 0, 0]
  | .test (.noCandidate f) => [4, 0, 1, f.toByte, 0]
  | .test .supplyLow => [4, 0, 2, 0, 0]
  | .test .afterLoss => [4, 0, 3, 0, 0]
  | .test .pressed => [4, 0, 4, 0, 0]
  | .goto target => [5, 0, byteOf target.val, 0, 0]
  | .invoke target => [6, 0, byteOf target.val, 0, 0]
  | .ret => [7, 0, 0, 0, 0]

/-- The presence bits of an attempt record. -/
def presenceByte (r : AttemptRecord) : Byte :=
  flagBit r.slot.isSome 0 ||| flagBit r.destination.isSome 1 ||| flagBit r.port.isSome 2
    ||| flagBit r.net.isSome 3 ||| flagBit r.cause.isSome 4 ||| flagBit r.talk.isSome 5
    ||| flagBit r.data.isSome 6

/-- The network of an attempt record, zero when absent. -/
def recordNetBytes : Option NetworkId → List Byte
  | some n => netBytes n
  | none => [0, 0, 0, 0]

/-- An attempt record: 18 bytes (Attempt record table). -/
def attemptBytes (r : AttemptRecord) : List Byte :=
  numberBytes r.number
    ++ [r.origin.toByte, presenceByte r, byteOf ((r.slot.map Fin.val).getD 0),
        byteOf ((r.destination.map Fin.val).getD 0), (r.port.map portByte).getD 0]
    ++ recordNetBytes r.net ++ numberBytes (r.score.getD 0)
    ++ [r.outcome.toByte, r.cause.getD 0] ++ numberBytes (r.talk.getD 0)
    ++ [(r.data.map DataOutcome.toByte).getD 0]

/-- A plan fault: kind and slot. -/
def planFaultBytes (f : PlanFault) : List Byte := [f.kind.toByte, byteOf f.slot.val]

/-- A summary, in the order of 05 R110; every campaign has an origin. -/
def summaryBytes (m : Summary) : List Byte :=
  [(m.origin.map CampaignOrigin.toByte).getD 0, m.outcome.toByte] ++ numberBytes m.total
    ++ [byteOf m.recoveries] ++ optField 2 planFaultBytes m.planFault ++ numberBytes m.seconds
    ++ [byteOf m.presses, flagByte m.truncated]

/-- The state of an entry: FREE 1, SEEN 2, LOST 3. -/
def EntryState.toByte : EntryState → Byte
  | .seen => 2
  | .lost => 3

/-- Every field of an entry, in the order of 01 section 1.1. -/
def entryBytes (e : Entry) : List Byte :=
  [e.state.toByte, portByte e.port] ++ netBytes e.net ++ averageBytes e.level ++ averageBytes e.quality
    ++ [byteOf e.samples] ++ numberBytes e.age ++ [byteOf e.failures, e.preference.toByte]
    ++ numberBytes e.score ++ [e.holds.toByte] ++ optField 1 (fun b => [b]) e.lastCause

/-- A slot of READ_TABLE by slot: a FREE slot by its state alone (01 R26). -/
def slotBytes : TableSlot × Option Entry → List Byte
  | (_, none) => [1]
  | (_, some e) => entryBytes e

/-- The hold set of the Survey Timer: bit 0 HOST, bit 1 HALT (log 21). -/
def holdSetByte (host halt : Bool) : Byte := flagBit host 0 ||| flagBit halt 1

/-- The standby in STATUS: entry, port, status. -/
def standbyBytes : TableSlot × Port × StandbyStatus → List Byte
  | (entry, port, status) => [byteOf entry.val, portByte port, standbyStatusByte (some status)]

/-- One port in STATUS (10 R188). -/
def portViewBytes (v : PortView) : List Byte :=
  [flagByte v.fitted, v.power.toByte] ++ attachmentBytes v.attachment
    ++ [v.call.toByte, v.attention.toByte, byteOf v.restartCount]

/-! ## Replies (10 R187) -/

/-- The contents of STATUS (10 R188). The audio route, none or one port, is laid out as a field that may be absent,
and the standby record as one such field (log 21). -/
def statusBytes (v : StatusView) : List Byte :=
  [v.state.toByte] ++ optField 1 (fun q => [Phase.toByte q]) v.phase
    ++ optField 1 (fun o => [CampaignOrigin.toByte o]) v.origin ++ optNumber16 v.number
    ++ [byteOf v.recoveries, byteOf v.presses] ++ optPort v.route ++ optField 3 standbyBytes v.standby
    ++ optPort v.callbackPort ++ [v.mode.toByte, flagByte v.halt] ++ optNumber16 v.last
    ++ [flagByte v.converting] ++ fourBytes portViewBytes v.ports ++ [v.pendingSet.toByte, v.mask.toByte]

/-- The seven tuning values (10 R189). -/
def tuningReplyBytes (t : Tuning) : List Byte :=
  numberBytes t.floor ++ [byteOf t.ringTimeout] ++ numberBytes t.callbackWindow
    ++ [byteOf t.recoveryLimit, flagByte t.standbyEnable, flagByte t.answerInIdle, byteOf t.entrySlot.val]

/-- A reply's contents; the refused ports of SURVEY_NOW are a list of port and reason (log 21). -/
def contentsBytes : Contents → List Byte
  | .none => []
  | .status v => statusBytes v
  | .tuning t => tuningReplyBytes t
  | .supply t mode halt last converting =>
    numberBytes t.warn ++ numberBytes t.shed ++ numberBytes t.cutoff ++ [mode.toByte, flagByte halt]
      ++ optNumber16 last ++ [flagByte converting]
  | .survey period buffered inForce policies counter holdHost holdHalt periodEnds =>
    numberBytes period ++ fourBytes numberBytes buffered ++ fourBytes numberBytes inForce
      ++ fourBytes (fun q => [Policy.toByte q]) policies ++ numberBytes counter
      ++ [holdSetByte holdHost holdHalt] ++ numberBytes periodEnds
  | .hold holdHost holdHalt counter period inForce periodEnds =>
    [holdSetByte holdHost holdHalt] ++ numberBytes counter ++ numberBytes period
      ++ fourBytes numberBytes inForce ++ numberBytes periodEnds
  | .surveyNow accepted refused =>
    portSetByte accepted :: listBytes (fun r => [portByte r.1, SubmitAnswer.toByte r.2]) refused
  | .textKept identity location => [byteOf identity, byteOf location]
  | .slots entries => listBytes slotBytes entries
  | .ranked entries =>
    listBytes (fun r => [byteOf r.1.val, byteOf r.2.1] ++ entryBytes r.2.2) entries
  | .planSteps steps entrySlot =>
    listBytes (fun r => byteOf r.1.val :: stepRecordBytes r.2) steps ++ [byteOf entrySlot.val]
  | .planDestination d entrySlot => textBytes d.digits ++ [flagByte d.dataFlag, byteOf entrySlot.val]
  | .planBox box entrySlot => textBytes box.identity ++ textBytes box.location ++ [byteOf entrySlot.val]
  | .planRefused entrySlot => [byteOf entrySlot.val]
  | .logRecords held truncated counter oldest active records =>
    [byteOf held, flagByte truncated] ++ numberBytes counter ++ optNumber16 oldest ++ [flagByte active]
      ++ listBytes attemptBytes records
  | .logSummary m => 1 :: summaryBytes m
  | .logNoSummary held counter active => [0, byteOf held] ++ numberBytes counter ++ [flagByte active]
  | .pendingRead set => [set.toByte]
  | .mask mask pendingSet => [mask.toByte, pendingSet.toByte]
  | .portPower power => [power.toByte]
  | .attention former => listBytes (fun r => [portByte r.1, Attention.toByte r.2]) former
  | .cleared freed kept => [byteOf freed, byteOf kept]
  | .imageCrc crc => wordBytes crc

/-- The link-flag field (10 section 10.7, Reply header). -/
def linkFlagsByte (frameError overrun : Bool) : Byte := flagBit frameError 0 ||| flagBit overrun 1

/-- A reply's TYPE and PAYLOAD (10 R187). -/
def Reply.frame (r : Reply) : Frame :=
  ⟨r.type, [r.code.toByte, linkFlagsByte r.frameError r.overrun, r.pendingSet.toByte]
    ++ contentsBytes r.contents⟩

/-! ## Reports (10 section 10.5) -/

/-- What a PORT report carries besides the common fields. -/
def portKindBytes : PortReportKind → List Byte
  | .fault cause | .dead cause => [cause.toByte]
  | .attention .registrationLost => [1, 0]
  | .attention (.incoming digits) => [2, flagByte digits]
  | .restarted | .sleepUnanswered | .disabled | .enabled => []

/-- The kind of a PORT report. -/
def PortReportKind.toByte : PortReportKind → Byte
  | .fault _ => 1
  | .dead _ => 2
  | .restarted => 3
  | .attention _ => 4
  | .sleepUnanswered => 5
  | .disabled => 6
  | .enabled => 7

/-- A report's TYPE and PAYLOAD: START C0h to PRESS C8h, kinds first; in a PORT report the common fields come
before the cause or condition, and the SUPPLY reports carry the last value's presence byte although it is never
absent there (log 21). -/
def Report.frame : Report → Frame
  | .start kind storeDefaults fitted rate =>
    ⟨0xC0, [kind.toByte, flagByte storeDefaults, portSetByte fitted, rateByte rate,
      Config.hardwareRevision]⟩
  | .started origin => ⟨0xC1, [1, origin.toByte]⟩
  | .state now phase origin number route outcome =>
    ⟨0xC1, [2, now.toByte] ++ optField 1 (fun q => [Phase.toByte q]) phase
      ++ optField 1 (fun o => [CampaignOrigin.toByte o]) origin ++ optNumber16 number ++ optPort route
      ++ optField 1 (fun o => [CampaignOutcome.toByte o]) outcome⟩
  | .standby status entry p reason =>
    ⟨0xC1, [3, standbyStatusByte status, byteOf entry.val, portByte p]
      ++ optField 1 (fun r => [StandbyReason.toByte r]) reason⟩
  | .incoming p digits answered =>
    ⟨0xC1, [4, portByte p]
      ++ (match digits with
          | some d => 1 :: textBytes d
          | none => [0, 0])
      ++ [flagByte answered]⟩
  | .attempt record held truncated => ⟨0xC2, attemptBytes record ++ [byteOf held, flagByte truncated]⟩
  | .summary m => ⟨0xC3, summaryBytes m⟩
  | .netAdded slot p net => ⟨0xC4, [1, byteOf slot.val, portByte p] ++ netBytes net⟩
  | .netReturned slot => ⟨0xC4, [2, byteOf slot.val]⟩
  | .netLost slot => ⟨0xC4, [3, byteOf slot.val]⟩
  | .netFreed slot cause => ⟨0xC4, [4, byteOf slot.val, cause.toByte]⟩
  | .netTableFull p net => ⟨0xC4, [5, portByte p] ++ netBytes net⟩
  | .netCleared freed => ⟨0xC4, [6, byteOf freed]⟩
  | .port kind p power attention restartCount =>
    ⟨0xC5, [kind.toByte, portByte p, power.toByte, attention.toByte, byteOf restartCount]
      ++ portKindBytes kind⟩
  | .supplyMode before after last => ⟨0xC6, [1, before.toByte, after.toByte] ++ optNumber16 last⟩
  | .supplyHalt last level => ⟨0xC6, 2 :: (optNumber16 last ++ numberBytes level)⟩
  | .periodEnd count period inForce records =>
    ⟨0xC7, 1 :: (numberBytes count ++ numberBytes period ++ fourBytes numberBytes inForce
      ++ fourBytes matchRecordBytes records)⟩
  | .press count now active => ⟨0xC8, [byteOf count, now.toByte, flagByte active]⟩

/-! ## Orders (07 section 7.2, R142) -/

/-- An order's TYPE and PAYLOAD; a WAKE's reason and an ATTACH's slot do not go out. -/
def OrderKind.frame : OrderKind → Frame
  | .wake _ => ⟨0x21, []⟩
  | .sleep => ⟨0x22, []⟩
  | .scan => ⟨0x23, []⟩
  | .attach _ net => ⟨0x24, netBytes net⟩
  | .detach => ⟨0x25, []⟩
  | .dial digits => ⟨0x26, textBytes digits⟩
  | .answer => ⟨0x27, []⟩
  | .hangup => ⟨0x28, []⟩
  | .refuse => ⟨0x29, []⟩
  | .sendData m =>
    ⟨0x2A, textBytes m.identity ++ textBytes m.location ++ numberBytes m.battery ++ numberBytes m.number
      ++ [byteOf m.recoveries]⟩

/-! ## Frames on the lines (10 R180, 07 R141) -/

/-- LEN, TYPE and PAYLOAD: LEN counts the TYPE and the PAYLOAD. -/
def Frame.body (f : Frame) : List Byte := byteOf (f.payload.length + 1) :: f.type :: f.payload

/-- A whole frame: the start byte A5h, LEN, TYPE, PAYLOAD and the CRC, high byte first. -/
def Frame.line (f : Frame) : List Byte := 0xA5 :: (f.body ++ wordBytes (crc16 f.body))

/-- The frame an outbound queue item is sent as. -/
def OutFrame.frame : OutFrame → Frame
  | .reply r => r.frame
  | .report r => r.frame

/-- One character: a start bit 0, eight data bits, least significant first, no parity bit, a stop bit 1
(10 R180); the module lines use the same format (07 R141). -/
def charBits (b : Byte) : List Bool :=
  [false, b.getLsbD 0, b.getLsbD 1, b.getLsbD 2, b.getLsbD 3, b.getLsbD 4, b.getLsbD 5, b.getLsbD 6,
    b.getLsbD 7, true]

/-- The bits of bytes placed on a line back to back (10 R180). -/
def lineBits (bytes : List Byte) : List Bool := bytes.flatMap charBits

/-- The bytes a line's bits carry: a character that does not begin with 0 and end with 1 is none. -/
def lineBytes? : List Bool → Option (List Byte)
  | [] => some []
  | false :: b0 :: b1 :: b2 :: b3 :: b4 :: b5 :: b6 :: b7 :: true :: rest =>
    (lineBytes? rest).map fun bytes =>
      (flagBit b0 0 ||| flagBit b1 1 ||| flagBit b2 2 ||| flagBit b3 3 ||| flagBit b4 4 ||| flagBit b5 5
        ||| flagBit b6 6 ||| flagBit b7 7) :: bytes
  | _ => none

/-- What the host line carries while the head of the outbound queue leaves. -/
def hostLine (s : State) : List Byte := (s.link.outbound.head?.map fun f => f.frame.line).getD []

/-- What a port's module line carried for its order in flight. -/
def moduleLine (s : State) (p : Port) : List Byte :=
  ((s.port p).inFlight.map fun f => f.order.kind.frame.line).getD []

/-- The host line's bits. -/
def hostLineBits (s : State) : List Bool := lineBits (hostLine s)

/-- A module line's bits. -/
def moduleLineBits (s : State) (p : Port) : List Bool := lineBits (moduleLine s p)

end Sys2Proof.Machine
end

