-- ==== Sys2Proof/Safety.lean ====
section
/-! DEFINITION. The words claims are made in: what an event leaves alone, the conditions under which a
request or an order goes through at once, and the ranges and shapes that every step keeps. -/

namespace Sys2Proof.Machine

/-! ## What an event leaves alone -/

/-- The host link without the queue and the set that reports go into. -/
def Link.still (l : Link) : Link := { l with outbound := [], pendingSet := ReportSet.empty }

/-- What only requests, resets, presses, the host line and the store move: the working configuration, the
store, the straps, the press detector, the waiting commands and the still part of the host link. -/
def State.outside (s : State) : WorkingConfig × Store × Straps × Straps × Bool × List Instr × Link :=
  (s.cfg, s.store, s.board, s.straps, s.armed, s.pending, s.link.still)

/-! ## Conditions on a state -/

/-- A good frame's last byte has just come on the host line: the receiver hunts (10 R181). -/
def lineIdle (s : State) : State := s.onLink fun l => { l with rx := .hunting }

/-- The same on a module line (07 R141). -/
def moduleIdle (p : Port) (s : State) : State := s.onPort p fun c => { c with rx := .hunting }

/-- A request that arrives is taken in its own event: none waits, a slot is free, no COMMIT_CONFIG and no
RESET holds the link (10 R186). -/
def LinkReady (s : State) : Prop :=
  s.link.inbound = [] ∧ s.link.outbound.length < 8 ∧ s.store.writing = none ∧ s.link.resetPending = false

/-- The request waits: the outbound queue is full, or the link is held (10 R186, R193, R194). -/
def LinkHeld (s : State) : Prop :=
  8 ≤ s.link.outbound.length ∨ s.store.writing ≠ none ∨ s.link.resetPending = true

/-- A port that sends an order at once: ON, nothing in flight, nothing queued, no HALT (06 R116). -/
def PortFree (s : State) (p : Port) : Prop :=
  (s.port p).power = .on ∧ (s.port p).inFlight = none ∧ (s.port p).queue = [] ∧ s.supply.halt = false

/-- Bringing a port to the network of an entry for a try or standby leaves the port context `after`, its
attachment ATTACHING the entry (03 R60, 04 R86; 06 R116, R117, R121): an ATTACH, behind a DETACH where the port
is on or going to another network, is sent by an idle ON port, goes behind a WAKE of an OFF one, and is queued
by one that is WAKING, SLEEPING or busy; an ATTACH of the entry that the port has already is taken over (log
19), and one of which the slot or the network is not the entry's is of another entry (log 44). -/
def BroughtTo (s : State) (p : Port) (slot : TableSlot) (net : NetworkId) (purpose : Purpose)
    (after : PortContext) : Prop :=
  ((s.port p).attachment = .attaching slot net
    ∧ (((∀ o ∈ (s.port p).queue, o.kind ≠ .attach slot net)
        ∧ ∃ who n, (s.port p).inFlight = some ⟨⟨.attach slot net, who⟩, n⟩
          ∧ after = { s.port p with inFlight := some ⟨⟨.attach slot net, .campaign purpose⟩, n⟩ })
      ∨ ∃ ahead who behind, (s.port p).queue = ahead ++ ⟨.attach slot net, who⟩ :: behind
        ∧ (∀ o ∈ behind, o.kind ≠ .attach slot net)
        ∧ after = { s.port p with
            queue := ahead ++ ⟨.attach slot net, .campaign purpose⟩ :: behind }))
  ∨ (s.supply.halt = false ∧ s.campaign.callbackPort ≠ some p
    ∧ ∃ (first : Order) (timeout : Nat) (rest : List Order),
      ((((∃ other, (s.port p).attachment = .attached other ∧ other ≠ net)
            ∨ ∃ i other, (s.port p).attachment = .attaching i other ∧ (i ≠ slot ∨ other ≠ net))
          ∧ first = ⟨.detach, .campaign purpose⟩ ∧ timeout = 10
          ∧ rest = [⟨.attach slot net, .campaign purpose⟩])
        ∨ (((s.port p).attachment = .none ∨ (s.port p).attachment = .detaching)
          ∧ first = ⟨.attach slot net, .campaign purpose⟩ ∧ timeout = 45 ∧ rest = []))
      ∧ ((PortFree s p ∧ after = { s.port p with
            attachment := .attaching slot net, inFlight := some ⟨first, timeout⟩, queue := rest })
        ∨ ((s.port p).power = .off ∧ (s.port p).queue = [] ∧ after = { s.port p with
            power := .waking
            attachment := .attaching slot net
            inFlight := some ⟨⟨.wake .demand, .port⟩, 20⟩
            queue := first :: rest })
        ∨ (((s.port p).power = .waking ∨ (s.port p).power = .sleeping
            ∨ ((s.port p).power = .on ∧ ((s.port p).inFlight ≠ none ∨ (s.port p).queue ≠ [])))
          ∧ (s.port p).queue.length + rest.length < 4
          ∧ after = { s.port p with
              attachment := .attaching slot net, queue := (s.port p).queue ++ first :: rest })))

/-- A HANGUP that ends the call of a try leaves the port context `after` (03 R63, R73; 06 R118, R119): an idle
ON port sends it and is CLEARING; behind an order in flight it stands in the queue ahead of every order that was
not placed at the head, and the call state stays. In a full queue the newest order that is not the campaign's,
a SCAN of the host or of start-up, goes. -/
def HungUp (s : State) (p : Port) (id : Nat) (after : PortContext) : Prop :=
  (PortFree s p ∧ (s.port p).call ≠ .none ∧ after = { s.port p with
    call := .clearing, silenceTimer := none, inFlight := some ⟨⟨.hangup, .campaign (.call id)⟩, 10⟩ })
  ∨ ((s.port p).power = .on ∧ s.supply.halt = false ∧ (s.port p).inFlight ≠ none
    ∧ ∃ kept heads rest : List Order,
      (((s.port p).queue.length < 4 ∧ kept = (s.port p).queue)
        ∨ ((s.port p).queue.length = 4 ∧ ∃ front o back, (s.port p).queue = front ++ o :: back
          ∧ o.kind = .scan ∧ (o.submitter = .host ∨ o.submitter = .start)
          ∧ (∀ x ∈ back, x.ofCampaign = true) ∧ kept = front ++ back))
      ∧ kept = heads ++ rest ∧ (∀ x ∈ heads, x.atHead = true) ∧ (∀ x ∈ rest, x.atHead = false)
      ∧ after = { s.port p with queue := heads ++ ⟨.hangup, .campaign (.call id)⟩ :: rest })

/-- The campaign has nothing on the port: no campaign use (06 R134) and not the route. -/
def PortUnused (s : State) (p : Port) : Prop :=
  inCampaignUse s p = false ∧ s.campaign.route ≠ some p

/-- The order is in flight on the port. -/
def InFlightIs (s : State) (p : Port) (o : Order) : Prop := ∃ n, (s.port p).inFlight = some ⟨o, n⟩

/-! ## Ranges of the Network Table (01 section 1.1, R1, R7, R14) -/

/-- Every number of an entry is in its field's range. -/
def Entry.inRange (e : Entry) : Prop :=
  -560 ≤ e.level ∧ e.level ≤ -176 ∧ -80 ≤ e.quality ∧ e.quality ≤ 120 ∧ e.samples ≤ 255 ∧ e.age ≤ 65535
    ∧ e.failures ≤ 7 ∧ e.score ≤ 780

/-- Every entry is in range. -/
def NetTable.inRange (t : NetTable) : Prop := ∀ slot e, t.entry slot = some e → e.inRange

/-- No two entries share port, operator and class. -/
def NetTable.distinct (t : NetTable) : Prop :=
  ∀ i j a b, t.entry i = some a → t.entry j = some b → a.port = b.port → a.net = b.net → i = j

/-! ## Shapes of the ports, the link and the log -/

/-- At most four orders queued, and none queued or in flight in OFF, DISABLED, FAULT or DEAD (06 R116). -/
def PortContext.orderly (c : PortContext) : Prop :=
  c.queue.length ≤ 4 ∧
    (c.power = .off ∨ c.power = .disabled ∨ c.power = .fault ∨ c.power = .dead →
      c.inFlight = none ∧ c.queue = [])

/-- Every port is orderly. -/
def State.portsOrderly (s : State) : Prop := ∀ p, (s.port p).orderly

/-- The inbound queue holds at most 4 frames and the outbound queue at most 8 (10 R183, R185). -/
def Link.bounded (l : Link) : Prop := l.inbound.length ≤ 4 ∧ l.outbound.length ≤ 8

/-- At most 16 records, and a counter that stays at 65535 (05 R106, R108). -/
def AttemptLog.bounded (l : AttemptLog) : Prop := l.records.length ≤ 16 ∧ l.counter ≤ 65535

/-! ## A working configuration every request leaves in range (11 R195, R199) -/

/-- The thresholds' order and bounds (09 R169). -/
def Thresholds.ordered (t : Thresholds) : Prop :=
  t.shed + 200 ≤ t.warn ∧ t.cutoff + 200 ≤ t.shed ∧ 9000 ≤ t.cutoff ∧ t.warn ≤ 15000

/-- The tuning values' ranges (10 R189). -/
def Tuning.inRange (t : Tuning) : Prop :=
  t.floor ≤ 780 ∧ 10 ≤ t.ringTimeout ∧ t.ringTimeout ≤ 120 ∧ t.callbackWindow ≤ 3600 ∧ t.recoveryLimit ≤ 7

/-- A step record's ranges (02 section 2.1). -/
def PlanStep.inRange : PlanStep → Prop
  | .dial _ _ tries _ => 1 ≤ tries ∧ tries ≤ 7
  | .wait seconds _ => 1 ≤ seconds ∧ seconds ≤ 255
  | .resurvey _ | .test _ | .goto _ | .invoke _ | .ret => True

/-- Digits are at most 20 dialling characters (02 R47). -/
def Destination.inRange (d : Destination) : Prop := d.digits.length ≤ 20 ∧ d.digits.all dialChar = true

/-- The box record's ranges (02 R48). -/
def BoxRecord.inRange (b : BoxRecord) : Prop :=
  1 ≤ b.identity.length ∧ b.identity.length ≤ 16 ∧ b.location.length ≤ 32
    ∧ b.identity.all printable = true ∧ b.location.all printable = true

/-- Every value of the configuration is one that its request checks or clamps it to. -/
def WorkingConfig.inRange (g : WorkingConfig) : Prop :=
  g.tuning.inRange ∧ g.thresholds.ordered ∧ 30 ≤ g.period ∧ g.period ≤ 4095
    ∧ (∀ p, g.compares.get p ≤ 4095) ∧ (∀ slot, (g.steps.get slot).inRange)
    ∧ (∀ n, (g.directory.get n).inRange) ∧ g.box.inRange ∧ g.preferences.length ≤ 8
    ∧ ∀ r ∈ g.preferences, r.operator ≤ 999999

/-- The working configuration, the stored image and a snapshot being written are in range. -/
def State.configInRange (s : State) : Prop :=
  s.cfg.inRange ∧ s.store.image.inRange ∧ ∀ g, s.store.writing = some g → g.inRange

end Sys2Proof.Machine

namespace Sys2Proof

/-! ## Rows of the lines -/

/-- The command that is the arrival of a request on the host line. -/
def Request.command : Request → Instr
  | .status => .status
  | .startCall => .startCall
  | .endCall => .endCall
  | .setTuning args => .setTuning args
  | .setSupply args => .setSupply args
  | .setSurvey args => .setSurvey args
  | .surveyHold => .surveyHold
  | .surveyRelease => .surveyRelease
  | .surveyNow ports => .surveyNow ports
  | .loadSteps first records => .loadSteps first records
  | .loadDestination number digits dataFlag => .loadDestination number digits dataFlag
  | .setPreferences records => .setPreferences records
  | .setBoxRecord identity location => .setBoxRecord identity location
  | .readTableBySlot first count => .readTableBySlot first count
  | .readTableRanked position count => .readTableRanked position count
  | .readPlanSteps first count => .readPlanSteps first count
  | .readPlanDestination number => .readPlanDestination number
  | .readPlanBox => .readPlanBox
  | .readLogRecords position count => .readLogRecords position count
  | .readLogSummary => .readLogSummary
  | .readPending => .readPending
  | .setReports mask => .setReports mask
  | .portControlDisable port => .portControlDisable port
  | .portControlEnable port => .portControlEnable port
  | .clearAttention ports => .clearAttention ports
  | .clearTable => .clearTable
  | .commitConfig => .commitConfig
  | .reset force => .reset force

/-- The command is a notice, known or not, on the module line of a port. -/
def Instr.isNoticeOn (c : Instr) (p : Port) : Prop :=
  c = .wakeDone p ∨ c = .sleepDone p ∨ c = .detachDone p ∨ c = .callProgressAlerting p
    ∨ c = .callProgressConnected p ∨ c = .moduleAlertFault p ∨ c = .moduleAlertRegistrationLost p
    ∨ (∃ networks, c = .scanResult p networks) ∨ (∃ result cause, c = .attachResult p result cause)
    ∨ (∃ cause moduleCause, c = .callEnded p cause moduleCause) ∨ (∃ digits, c = .incoming p digits)
    ∨ (∃ level quality, c = .servingLevel p level quality) ∨ (∃ result, c = .dataResult p result)
    ∨ ∃ type payload, c = .unknownNotice p type payload

end Sys2Proof
end

