-- ==== Sys2Proof/WellFormed.lean ====
section
/-! DEFINITION. Which commands a line can carry: the variable-length operands fit one frame (10 R180: LEN
is at most 200, so a payload at most 199 bytes) and their counts one byte. Field values are not checked
here: the coordinator answers for them. -/

namespace Sys2Proof

/-- How many payload bytes a frame can hold (10 R180). -/
def maxPayload : Nat := 199

/-- The caller digits of an INCOMING fit its frame: presence and length bytes before them. -/
def digitsFit (digits : Option (List Byte)) : Bool :=
  match digits with
  | none => true
  | some d => d.length + 2 ≤ maxPayload

/-- A command that can reach the coordinator: every payload fits a frame. -/
def Instr.wellFormed : Instr → Bool
  | .unknownNotice _ _ payload => payload.length ≤ maxPayload
  | .scanResult _ networks => networks.length * 6 + 1 ≤ maxPayload
  | .incoming _ digits => digitsFit digits
  | .loadSteps _ records => records.length * 5 + 2 ≤ maxPayload
  | .loadDestination _ digits _ => digits.length + 3 ≤ maxPayload
  | .setPreferences records => records.length * 4 + 1 ≤ maxPayload
  | .setBoxRecord identity location => identity.length + location.length + 2 ≤ maxPayload
  | .unknownRequest _ payload => payload.length ≤ maxPayload
  | .powerOnReset _ | .pinReset _ | .callPress | .tick | .entryAged _ | .waitExpiry | .ringTimeout
  | .callbackWindowExpiry | .orderTimeout _ | .wakeTimeout _ | .sleepTimeout _ | .silenceTimeout _
  | .portRestart _ | .policySleep _ | .keepWarmWake _ | .periodEnd | .compareMatch _ | .conversionStart
  | .conversionDone _ | .campaignIdleNotice | .hostFrameReceived _ | .receiveGap | .outboundFrameSent
  | .moduleFrameError _ _ | .wakeDone _ | .sleepDone _ | .attachResult _ _ _ | .detachDone _
  | .callProgressAlerting _ | .callProgressConnected _ | .callEnded _ _ _ | .servingLevel _ _ _
  | .dataResult _ _ | .moduleAlertFault _ | .moduleAlertRegistrationLost _ | .status | .startCall
  | .endCall | .setTuning _ | .setSupply _ | .setSurvey _ | .surveyHold | .surveyRelease | .surveyNow _
  | .readTableBySlot _ _ | .readTableRanked _ _ | .readPlanSteps _ _ | .readPlanDestination _
  | .readPlanBox | .readLogRecords _ _ | .readLogSummary | .readPending | .setReports _
  | .portControlDisable _ | .portControlEnable _ | .clearAttention _ | .clearTable | .commitConfig
  | .commitDone _ | .reset _ | .moduleReceiveGap _ | .callLineRelease => true

/-- A request that fits a frame. -/
def Request.wellFormed : Request → Bool
  | .loadSteps _ records => records.length * 5 + 2 ≤ maxPayload
  | .loadDestination _ digits _ => digits.length + 3 ≤ maxPayload
  | .setPreferences records => records.length * 4 + 1 ≤ maxPayload
  | .setBoxRecord identity location => identity.length + location.length + 2 ≤ maxPayload
  | .status | .startCall | .endCall | .setTuning _ | .setSupply _ | .setSurvey _ | .surveyHold
  | .surveyRelease | .surveyNow _ | .readTableBySlot _ _ | .readTableRanked _ _ | .readPlanSteps _ _
  | .readPlanDestination _ | .readPlanBox | .readLogRecords _ _ | .readLogSummary | .readPending
  | .setReports _ | .portControlDisable _ | .portControlEnable _ | .clearAttention _ | .clearTable
  | .commitConfig | .reset _ => true

end Sys2Proof
end

