-- ==== Sys2Proof/Certificates/Slice0/Obligations.lean ====
section
/-! DEFINITION. The statements for the provers. Each docstring names the rules it is about. -/

open Sys2Proof Sys2Proof.Machine

/-! ## The step, resets, presses -/

/-- A step takes the command at the front of the queue and runs it with the queue's rest; with none waiting
it idles (log 1). -/
def Obligations.StepTakesFront : Prop :=
  (∀ (c : Instr) (rest : List Instr) (s : State), s.pending = c :: rest →
    step s = exec c { s with pending := rest })
  ∧ ∀ s : State, s.pending = [] → step s = .next s

/-- 11 R199, R200, R197: POWER_ON_RESET and PIN_RESET, whatever was going on: the stored image when its mark is
set and its CRC agrees, else the defaults; the straps; every block at its values after a reset; START first in
the queue; a SCAN behind a WAKE at every fitted, enabled port. What is not the rules' own: the straps come as
the command's operand (log 7), the model's own count of ids starts again at 0 (log 19), and the image and CRC
of before a write that the reset ends stay behind the clear mark (log 32). -/
def Obligations.ResetStartsUp : Prop :=
  ∀ (straps : Straps) (s : State) (c : Instr) (kind : ResetKind),
    (c = .powerOnReset straps ∧ kind = .powerOn) ∨ (c = .pinReset straps ∧ kind = .pin) →
    ∃ t, exec c s = .next t
      ∧ t.cfg = (if s.store.mark = true ∧ imageCrc s.store.image = s.store.crc then s.store.image
          else WorkingConfig.builtin)
      ∧ t.table = NetTable.free ∧ t.log = AttemptLog.empty ∧ t.campaign = Campaign.inIdle
      ∧ t.survey = Survey.afterReset t.cfg.compares ∧ t.supply = Supply.afterReset
      ∧ (∃ storeDefaults : Bool,
          (storeDefaults = true ↔ ¬(s.store.mark = true ∧ imageCrc s.store.image = s.store.crc))
          ∧ t.link = { Link.afterReset with
              outbound := [.report (.start kind storeDefaults straps.fitted straps.rate)] })
      ∧ t.store = { s.store with writing := none } ∧ t.board = straps ∧ t.straps = straps
      ∧ t.armed = true ∧ t.serial = 0 ∧ t.pending = s.pending
      ∧ ∀ p, t.port p =
          if straps.fitted.get p = true ∧ t.cfg.enables.get p = true then
            { PortContext.afterReset .waking with
              inFlight := some ⟨⟨.wake .demand, .port⟩, 20⟩
              queue := [⟨.scan, .start⟩] }
          else PortContext.afterReset .disabled

/-- 03 R55, R56: a release of the CALL line arms the press detector; an armed detector takes a press and is
no longer armed; an unarmed one takes none. A press of an active campaign outside CALLBACK is counted, up to
255, and reported; one in IDLE with the supply at CUTOFF or in HALT is only reported. -/
def Obligations.PressTaken : Prop :=
  (∀ s : State, exec .callLineRelease s = .next { s with armed := true })
  ∧ (∀ s : State, s.armed = false → exec .callPress s = .next s)
  ∧ (∀ s t : State, s.armed = true → exec .callPress s = .next t → t.armed = false)
  ∧ (∀ s : State, s.armed = true → s.campaign.state ≠ .idle → s.campaign.state ≠ .callback →
    exec .callPress s = .next
      (raise (.press (min 255 (s.campaign.presses + 1)) s.campaign.state true)
        { s with
          armed := false
          campaign := { s.campaign with presses := min 255 (s.campaign.presses + 1) } }))
  ∧ ∀ s : State, s.armed = true → s.campaign.state = .idle →
    (s.supply.mode = .cutoff ∨ s.supply.halt = true) →
    exec .callPress s = .next (raise (.press s.campaign.presses .idle false) { s with armed := false })

/-- 03 R56, R58, 02 R36, R51: a press in IDLE that may start a campaign clears the log, starts a campaign of
origin BUTTON and walks the plan from the entry slot; where a WAIT stands there the campaign is in PAUSE with
its seconds. STARTED is reported, then STATE. The fields of the STATE report follow log 20. -/
def Obligations.PressStartsCampaign : Prop :=
  ∀ (s : State) (seconds : Nat) (more : Bool),
    s.armed = true → s.campaign.state = .idle → s.supply.mode ≠ .cutoff → s.supply.halt = false →
    s.cfg.steps.get s.cfg.tuning.entrySlot = .wait seconds more →
    exec .callPress s = .next
      (raise (.state .pause (some .plan) (some .button) none none none)
        (raise (.started .button)
          { s with
            armed := false
            log := AttemptLog.empty
            campaign := { Campaign.inIdle with
              state := .pause
              phase := some .plan
              origin := some .button
              cursor := some s.cfg.tuning.entrySlot
              waitTimer := some seconds } }))

/-- 03 R57, R58: START_CALL answers OK and starts a campaign of origin HOST as a press would, its reply ahead
of its reports; it answers POWER in CUTOFF or HALT and BUSY while a campaign outside CALLBACK is active, and
then changes nothing. In CALLBACK with the supply at CUTOFF the answer POWER is the model's choice (log 27). -/
def Obligations.StartCall : Prop :=
  (∀ (s : State) (seconds : Nat) (more : Bool), LinkReady s →
    s.campaign.state = .idle → s.supply.mode ≠ .cutoff → s.supply.halt = false →
    s.cfg.steps.get s.cfg.tuning.entrySlot = .wait seconds more →
    exec .startCall s = .next
      (raise (.state .pause (some .plan) (some .host) none none none)
        (raise (.started .host)
          { placeReply 0x82 .ok .none (lineIdle s) with
            log := AttemptLog.empty
            campaign := { Campaign.inIdle with
              state := .pause
              phase := some .plan
              origin := some .host
              cursor := some s.cfg.tuning.entrySlot
              waitTimer := some seconds } })))
  ∧ (∀ s : State, LinkReady s → s.campaign.state ≠ .idle → s.campaign.state ≠ .callback →
    exec .startCall s = .next (placeReply 0x82 .busy .none (lineIdle s)))
  ∧ ∀ s : State, LinkReady s → (s.campaign.state = .idle ∨ s.campaign.state = .callback) →
    (s.supply.mode = .cutoff ∨ s.supply.halt = true) →
    exec .startCall s = .next (placeReply 0x82 .power .none (lineIdle s))

/-- 02 R32, 03 R58 to R61, 01 R22, 05 R106, 06 R116, R117, R121: a press whose plan begins with a DIAL step takes
the first eligible entry for attempt 1, with the TRY hold. A port attached to that network dials, at once where
it is free, else behind its queue, the campaign in DIAL; any other port that can take the orders is brought to
the network by DETACH and ATTACH, or by an ATTACH alone, or waits for its own ATTACH already in flight, the
campaign in PREPARE. The try's id and the taking over of an ATTACH are the model's own (log 19), and when a port
counts as ATTACHING the entry is its choice (log 44). -/
def Obligations.PressDialsBestNetwork : Prop :=
  ∀ (s : State) (destination : DestNumber) (filter : ClassSet) (tries : Nat) (more : Bool)
      (slot : TableSlot) (e : Entry) (state : CampaignState) (stage : TryStage) (after : PortContext),
    s.armed = true → s.campaign = Campaign.inIdle → s.supply.mode ≠ .cutoff → s.supply.halt = false →
    s.cfg.steps.get s.cfg.tuning.entrySlot = .dial destination filter tries more →
    (s.cfg.directory.get destination).digits ≠ [] →
    firstEligible s filter = some slot → s.table.entry slot = some e →
    ((PortFree s e.port ∧ (s.port e.port).attachment = .attached e.net ∧ (s.port e.port).call = .none
        ∧ state = .dial ∧ stage = .dialing
        ∧ after = { s.port e.port with
            call := .dialing
            silenceTimer := none
            inFlight := some
              ⟨⟨.dial (s.cfg.directory.get destination).digits, .campaign (.attempt s.serial)⟩, 40⟩ })
      ∨ ((s.port e.port).power = .on ∧ ((s.port e.port).inFlight ≠ none ∨ (s.port e.port).queue ≠ [])
        ∧ (s.port e.port).queue.length < 4 ∧ (s.port e.port).attachment = .attached e.net
        ∧ state = .dial ∧ stage = .dialing
        ∧ after = { s.port e.port with queue := (s.port e.port).queue
            ++ [⟨.dial (s.cfg.directory.get destination).digits, .campaign (.attempt s.serial)⟩] })
      ∨ (BroughtTo s e.port slot e.net (.attempt s.serial) after ∧ state = .prepare
        ∧ stage = .preparing)) →
    exec .callPress s = .next
      (raise (.state state (some .plan) (some .button) (some 1) none none)
        (raise (.started .button)
          { s with
            armed := false
            serial := s.serial + 1
            log := { AttemptLog.empty with counter := 1 }
            table := s.table.onEntry slot fun x => { x with holds := { x.holds with attempt := true } }
            ports := s.ports.put e.port after
            campaign := { Campaign.inIdle with
              state := state
              phase := some .plan
              origin := some .button
              cursor := some s.cfg.tuning.entrySlot
              dialStep := some ⟨s.cfg.tuning.entrySlot, destination, filter, tries, [], false⟩
              attempt := some
                { id := s.serial
                  origin := .plan
                  number := some 1
                  slot := some s.cfg.tuning.entrySlot
                  destination := some destination
                  digits := (s.cfg.directory.get destination).digits
                  dataFlag := (s.cfg.directory.get destination).dataFlag
                  entry := some slot
                  net := some e.net
                  port := some e.port
                  score := some e.score
                  stage := stage
                  release := none
                  talk := none
                  data := none
                  cause := none } } }))

/-! ## Time -/

/-- 01 R12, R6, 03 R53, R68, 06 R119, R124, R130, R134, R135, 08 R154, 09 R167: a tick with nothing left due:
every age, timer and counter of the machine moves by its rule, the entries R6 frees and the ports whose tests
hold are noted as due, and nothing else changes. That a tick notes what is due, and its order, is the model's
choice (log 2). -/
def Obligations.TickCounts : Prop :=
  ∀ s : State, Quiet s = true →
    ∃ t, exec .tick s = .next t
      ∧ t.cfg = s.cfg ∧ t.log = s.log ∧ t.link = s.link ∧ t.store = s.store ∧ t.board = s.board
      ∧ t.straps = s.straps ∧ t.armed = s.armed ∧ t.serial = s.serial ∧ t.pending = s.pending
      ∧ (∀ slot, t.table.entry slot = (s.table.entry slot).map fun e =>
          rescore s.cfg.preferences { e with age := min 65535 (e.age + 1) })
      ∧ (∀ slot, slot ∈ t.table.agedDue ↔ ∃ e, t.table.entry slot = some e ∧ e.state = .lost
          ∧ e.holds = Holds.empty ∧ 3600 < e.age)
      ∧ t.campaign = { s.campaign with
          seconds := if s.campaign.state = .idle then s.campaign.seconds
            else min 65535 (s.campaign.seconds + 1)
          attempt := s.campaign.attempt.map fun x =>
            if x.stage = .connected then { x with talk := x.talk.map fun n => min 65535 (n + 1) } else x
          ringTimer := s.campaign.ringTimer.map fun n => n - 1
          waitTimer := s.campaign.waitTimer.map fun n => n - 1
          windowTimer := s.campaign.windowTimer.map fun n => n - 1 }
      ∧ (∀ p, t.port p = { s.port p with
          inFlight := (s.port p).inFlight.map fun f => { f with timer := f.timer - 1 }
          silenceTimer := (s.port p).silenceTimer.map fun n => n - 1
          restartTimer := (s.port p).restartTimer.map fun n => n - 1
          tickDue := restartTest t p || sleepTest t p || wakeTest t p })
      ∧ t.supply = { s.supply with interval := s.supply.interval - 1 }
      ∧ ((s.survey.holdHost = true ∨ s.survey.holdHalt = true) → t.survey = s.survey)
      ∧ (s.survey.holdHost = false → s.survey.holdHalt = false →
          ∀ n, n = (if s.survey.counter = 4095 then 0 else s.survey.counter + 1) →
            (n = s.cfg.period → t.survey = { s.survey with
              counter := 0, periodEndDue := true, matchDue := ⟨false, false, false, false⟩ })
            ∧ (n ≠ s.cfg.period → t.survey = { s.survey with
              counter := n, matchDue := s.survey.inForce.map fun c => decide (c = n) }))

/-- 01 R6: ENTRY_AGED frees a LOST entry that no one holds and that is older than 3600 s, once its tick has
noted it, and reports FREED with cause AGED; any other entry stays, one sampled or held since the tick too. The
note, and that the test is made again at the row, are the model's own (log 2). -/
def Obligations.AgedEntryFreed : Prop :=
  ∀ (s : State) (slot : TableSlot) (e : Entry), s.table.entry slot = some e → slot ∈ s.table.agedDue →
    (e.state = .lost → e.holds = Holds.empty → 3600 < e.age →
      exec (.entryAged slot) s = .next
        (raise (.netFreed slot .aged)
          { s with table :=
            { slots := s.table.slots.set slot none, agedDue := s.table.agedDue.filter (· != slot) } }))
    ∧ (e.state = .seen ∨ e.holds ≠ Holds.empty ∨ e.age ≤ 3600 → exec (.entryAged slot) s = .next s)

/-- 02 R28, R30, R31, R36, R38, R39, R41 to R45, 03 R82, 04 R96 to R98, 01 R23: a wait that expires goes on at
the slot after its step. Where the walk comes to a WAIT, directly or by a GOTO, a TEST, an INVOKE or a RETURN
there, that WAIT's timer starts and the campaign stays in PAUSE, the return stack as the control step leaves
it. A more flag of 0 and a RETURN on an empty stack end the plan; a GOTO to its own slot comes to the 32nd
control step, a fault LOOP, and an INVOKE on a full stack is a fault STACK_FULL, and they end the plan at that
slot. With destination 0 empty the campaign then ends FAILED, the fault in its summary; with digits there the
set of entries that are SEEN, not barred and on usable ports is frozen in ranked order and the first of them,
on a free attached port, is dialled at once. The count of notices is the model's own (log 34), the try's id
too (log 19). -/
def Obligations.WaitEnds : Prop :=
  ∀ (s : State) (slot : PlanSlot) (seconds : Nat) (more : Bool),
    s.campaign.state = .pause → s.campaign.waitTimer = some 0 → s.campaign.cursor = some slot →
    s.cfg.steps.get slot = .wait seconds more →
    (∀ (next : PlanSlot) (stack : List PlanSlot) (time : Nat) (last : Bool), more = true →
      ((next = slot + 1 ∧ stack = s.campaign.stack)
        ∨ (s.campaign.controlCount = 0
          ∧ ((s.cfg.steps.get (slot + 1) = .goto next ∧ stack = s.campaign.stack)
            ∨ (s.cfg.steps.get (slot + 1) = .invoke next ∧ s.campaign.stack.length < 4
              ∧ stack = s.campaign.stack ++ [slot + 1 + 1])
            ∨ (s.cfg.steps.get (slot + 1) = .ret ∧ s.campaign.stack = stack ++ [next])
            ∨ ∃ (condition : Condition) (held : Bool), s.cfg.steps.get (slot + 1) = .test condition
              ∧ stack = s.campaign.stack
              ∧ (∀ filter, condition = .noCandidate filter →
                (held = true ↔ firstEligible s filter = none))
              ∧ (condition = .supplyLow → (held = true ↔ s.supply.mode ≠ .normal))
              ∧ (condition = .afterLoss → held = s.campaign.afterLoss)
              ∧ (condition = .pressed → (held = true ↔ 1 ≤ s.campaign.presses))
              ∧ ((held = false ∧ next = slot + 1 + 1)
                ∨ (held = true ∧ stepMore (s.cfg.steps.get (slot + 1 + 1)) ≠ some false
                  ∧ next = slot + 1 + 1 + 1))))) →
      s.cfg.steps.get next = .wait time last →
      exec .waitExpiry s = .next { s with campaign := { s.campaign with
        cursor := some next, controlCount := 0, stack := stack, waitTimer := some time } })
    ∧ ∀ fault : Option PlanFault,
      ((more = false ∧ fault = s.campaign.planFault)
        ∨ (more = true ∧ s.campaign.controlCount = 0
          ∧ ((s.cfg.steps.get (slot + 1) = .ret ∧ s.campaign.stack = [] ∧ fault = s.campaign.planFault)
            ∨ (s.cfg.steps.get (slot + 1) = .goto (slot + 1) ∧ fault = some ⟨.loop, slot + 1⟩)
            ∨ ∃ target, s.cfg.steps.get (slot + 1) = .invoke target ∧ 4 ≤ s.campaign.stack.length
              ∧ fault = some ⟨.stackFull, slot + 1⟩))) →
      ((s.cfg.directory.get 0).digits = [] →
        ∃ t, exec .waitExpiry s = .next t
          ∧ t.campaign = Campaign.inIdle
          ∧ t.log = { s.log with
              summary := some
                { origin := s.campaign.origin, outcome := .failed, total := s.log.counter,
                  recoveries := s.campaign.recoveries, planFault := fault,
                  seconds := s.campaign.seconds, presses := s.campaign.presses,
                  truncated := s.log.truncated } }
          ∧ (∀ i, t.table.entry i = (s.table.entry i).map fun e => { e with holds := Holds.empty })
          ∧ t.ports = s.ports ∧ t.survey = s.survey ∧ t.outside = s.outside
          ∧ t.supply = { s.supply with idleNotices := s.supply.idleNotices + 1 })
      ∧ ∀ (slots rest : List TableSlot) (i : TableSlot) (e : Entry),
        (s.cfg.directory.get 0).digits ≠ [] →
        slots = ((s.table.ranked.map Prod.fst).filter fun j => (s.table.entry j).any fun x =>
          x.state == .seen && x.preference != .bar && (s.port x.port).power.usable) →
        slots = i :: rest → s.table.entry i = some e → s.campaign.route = none → s.campaign.standby = none →
        PortFree s e.port → (s.port e.port).attachment = .attached e.net → (s.port e.port).call = .none →
        ∃ t, exec .waitExpiry s = .next t
          ∧ t.campaign = { s.campaign with
              state := .dial
              phase := some .lastResort
              stack := []
              dialStep := none
              planFault := fault
              waitTimer := none
              cursor := t.campaign.cursor
              controlCount := t.campaign.controlCount
              lastResort := some ⟨false, slots, 1⟩
              attempt := some
                { id := s.serial, origin := .lastResort, number := some (min 65535 (s.log.counter + 1)),
                  slot := none, destination := some 0, digits := (s.cfg.directory.get 0).digits,
                  dataFlag := (s.cfg.directory.get 0).dataFlag, entry := some i, net := some e.net,
                  port := some e.port, score := some e.score, stage := .dialing, release := none,
                  talk := none, data := none, cause := none } }
          ∧ t.ports = s.ports.put e.port { s.port e.port with
              call := .dialing
              silenceTimer := none
              inFlight := some
                ⟨⟨.dial (s.cfg.directory.get 0).digits, .campaign (.attempt s.serial)⟩, 40⟩ }
          ∧ t.table = s.table.onEntry i (fun x => { x with holds := { x.holds with attempt := true } })
          ∧ t.log = { s.log with counter := min 65535 (s.log.counter + 1) }
          ∧ t.supply = s.supply ∧ t.survey = s.survey ∧ t.outside = s.outside

/-- 03 R63, 06 R119, R122: the ring timer's expiry sends HANGUP on the try's free port: the try is RELEASING
for RING_TIMEOUT, the campaign in RELEASE, the port's call CLEARING. -/
def Obligations.RingTimesOut : Prop :=
  ∀ (s : State) (x : CurrentTry) (p : Port),
    s.campaign.state = .ring → s.campaign.ringTimer = some 0 → s.campaign.attempt = some x →
    x.port = some p → s.campaign.route = none → PortFree s p → (s.port p).call = .alerting →
    exec .ringTimeout s = .next
      (raise (.state .release s.campaign.phase s.campaign.origin x.number none none)
        { s with
          campaign := { s.campaign with
            state := .release
            ringTimer := none
            attempt := some { x with stage := .releasing, release := some .ringTimeout } }
          ports := s.ports.put p { s.port p with
            call := .clearing
            silenceTimer := none
            inFlight := some ⟨⟨.hangup, .campaign (.call x.id)⟩, 10⟩ } })

/-- 03 R80, R82, R53, 05 R110, R111: the window's expiry ends the campaign COMPLETED: SUMMARY, then STATE with
the outcome, every hold withdrawn, the context at its IDLE values, and the Supply Monitor told. The fields of
the last STATE report follow log 20, the count of notices log 34. -/
def Obligations.WindowExpires : Prop :=
  ∀ s : State, s.campaign.state = .callback → s.campaign.windowTimer = some 0 → s.campaign.standby = none →
    ∃ summary : Summary,
      summary = { origin := s.campaign.origin, outcome := .completed, total := s.log.counter,
                  recoveries := s.campaign.recoveries, planFault := s.campaign.planFault,
                  seconds := s.campaign.seconds, presses := s.campaign.presses,
                  truncated := s.log.truncated }
      ∧ exec .callbackWindowExpiry s = .next
        (raise (.state .idle s.campaign.phase s.campaign.origin none none (some .completed))
          (raise (.summary summary)
            { s with
              campaign := Campaign.inIdle
              log := { s.log with summary := some summary }
              table := { s.table with
                slots := s.table.slots.map fun o => o.map fun e => { e with holds := Holds.empty } }
              supply := { s.supply with idleNotices := s.supply.idleNotices + 1 } }))

/-! ## Failures, sleep and restarts of a port -/

/-- 06 R123, R124, R128, R129, R132, 01 R4: a port the campaign does not use fails, by an order's timeout, a
silent call, a MODULE_ALERT of kind FAULT or a WAKE's timeout: its orders are dropped, its call and attachment
gone, every SEEN entry of it LOST, MODULE_FAULT in its attention set; FAULT with its restart timer at 30, or
DEAD without one when the WAKEs unanswered come to 3. The PORT report comes last. -/
def Obligations.PortFails : Prop :=
  ∀ (s : State) (p : Port) (c : Instr) (cause : FaultCause) (count : Nat) (rx : Receiver), PortUnused s p →
    (c = .orderTimeout p ∧ cause = .timeout ∧ count = (s.port p).restartCount ∧ rx = (s.port p).rx
        ∧ ∃ f, (s.port p).inFlight = some f ∧ f.timer = 0 ∧ f.order.kind ≠ .sleep
          ∧ ∀ reason, f.order.kind ≠ .wake reason)
      ∨ (c = .silenceTimeout p ∧ cause = .silent ∧ count = (s.port p).restartCount ∧ rx = (s.port p).rx
        ∧ (s.port p).silenceTimer = some 0)
      ∨ (c = .moduleAlertFault p ∧ cause = .moduleFault ∧ count = (s.port p).restartCount ∧ rx = .hunting
        ∧ ((s.port p).power = .on ∨ (s.port p).power = .waking ∨ (s.port p).power = .sleeping))
      ∨ (c = .wakeTimeout p ∧ cause = .timeout ∧ count = min 3 ((s.port p).restartCount + 1)
        ∧ rx = (s.port p).rx
        ∧ ∃ f reason, (s.port p).inFlight = some f ∧ f.timer = 0 ∧ f.order.kind = .wake reason) →
    ∃ u : State,
      exec c s = .next
        (raise (.port (if c = .wakeTimeout p ∧ count = 3 then .dead cause else .fault cause) p
          (u.port p).power (u.port p).attention (u.port p).restartCount) u)
      ∧ u.port p =
          { power := if c = .wakeTimeout p ∧ count = 3 then .dead else .fault
            attachment := .none
            call := .none
            inFlight := none
            queue := []
            attention := { (s.port p).attention with moduleFault := true }
            restartCount := count
            restartTimer := if c = .wakeTimeout p ∧ count = 3 then none else some 30
            silenceTimer := none
            rx := rx
            tickDue := false }
      ∧ (∀ q, q ≠ p → u.port q = s.port q)
      ∧ (∀ slot, u.table.entry slot = (s.table.entry slot).map fun e =>
          if e.port = p ∧ e.state = .seen then { e with state := .lost } else e)
      ∧ u.campaign = s.campaign ∧ u.log = s.log ∧ u.supply = s.supply ∧ u.outside = s.outside
      ∧ s.link.outbound <+: u.link.outbound

/-- 06 R133, R119: a SLEEP that is answered or times out leaves the port OFF when nothing is queued, and
otherwise sends a WAKE of reason DEMAND ahead of the queue; a timeout is reported SLEEP_UNANSWERED and counts
for nothing. The receiver left hunting by the notice follows log 5. -/
def Obligations.SleepEnds : Prop :=
  ∀ (s : State) (p : Port) (submitter : Submitter) (n : Nat), (s.port p).power = .sleeping →
    (s.port p).inFlight = some ⟨⟨.sleep, submitter⟩, n⟩ → s.campaign.callbackPort ≠ some p →
    ∃ after : PortContext,
      ((s.port p).queue = [] → after = { s.port p with power := .off, inFlight := none })
      ∧ ((s.port p).queue ≠ [] → after = { s.port p with
          power := .waking
          inFlight := some ⟨⟨.wake .demand, .port⟩, 20⟩
          attachment := if (s.port p).queue.any Order.registers then (s.port p).attachment else .none })
      ∧ exec (.sleepDone p) s = .next { s with ports := s.ports.put p { after with rx := .hunting } }
      ∧ (n = 0 → exec (.sleepTimeout p) s = .next
          (raise (.port .sleepUnanswered p after.power after.attention after.restartCount)
            { s with ports := s.ports.put p after }))

/-- 06 R130, R134, R135: the three orders a tick makes the ports send themselves: a WAKE of reason RESTART out
of FAULT in NORMAL or LOW; a SLEEP to an idle ON_DEMAND port out of campaign use; a WAKE of reason POLICY to an
OFF port whose effective policy is KEEP_WARM. That the row acts on the tick's note is the model's choice (log
2). -/
def Obligations.PortsActAtTick : Prop :=
  ∀ (s : State) (p : Port), (s.port p).tickDue = true → s.campaign.callbackPort ≠ some p →
    (s.port p).queue = [] →
    ((s.port p).power = .fault → (s.port p).restartTimer = some 0 →
        (s.supply.mode = .normal ∨ s.supply.mode = .low) → s.supply.halt = false →
      exec (.portRestart p) s = .next { s with ports := s.ports.put p { s.port p with
        power := .waking, attachment := .none, restartTimer := none, tickDue := false,
        inFlight := some ⟨⟨.wake .restart, .port⟩, 20⟩ } })
    ∧ ((s.port p).power = .on → (s.port p).inFlight = none → (s.port p).call = .none →
        inCampaignUse s p = false → (s.supply.mode ≠ .normal ∨ s.cfg.policies.get p = .onDemand) →
      exec (.policySleep p) s = .next { s with ports := s.ports.put p { s.port p with
        power := .sleeping, attachment := .none, tickDue := false,
        inFlight := some ⟨⟨.sleep, .port⟩, 5⟩ } })
    ∧ ((s.port p).power = .off → s.supply.mode = .normal → s.cfg.policies.get p = .keepWarm →
        s.supply.halt = false →
      exec (.keepWarmWake p) s = .next { s with ports := s.ports.put p { s.port p with
        power := .waking, attachment := .none, tickDue := false,
        inFlight := some ⟨⟨.wake .policy, .port⟩, 20⟩ } })

/-! ## Survey Timer and Supply Monitor -/

/-- 08 R155, R158, 01 R14, R22, 04 R84 to R86: a period end: the count, the PERIOD_END report with the records of
the period that ended, the records NONE, the buffered compares in force and compared with the counter, every
failure count down by 1, and the standby prompt. A standby is sought only in TALK with none present, its enable
on and the supply NORMAL; where the table names an entry and its port has no call, the record is created with
the STANDBY hold and reported, READY where the port is attached to the network, else PREPARING with the orders
of R60. The due marks are the model's own (log 2), the standby's id too (log 19); that the settings are read when
the row is taken (log 45) and when a port counts as ATTACHING the entry (log 44) are its choices. -/
def Obligations.PeriodEnds : Prop :=
  ∀ (s : State) (u : State), s.survey.periodEndDue = true →
    u = { s with
      survey := { s.survey with
        periodEnds := (s.survey.periodEnds + 1) % 65536
        periodEndDue := false
        records := ⟨.none, .none, .none, .none⟩
        inForce := s.cfg.compares
        matchDue := s.cfg.compares.map fun c => decide (c = s.survey.counter) }
      table := { s.table with
        slots := s.table.slots.map fun o => o.map fun e =>
          rescore s.cfg.preferences { e with failures := e.failures - 1 } } } →
    (s.campaign.state ≠ .talk ∨ s.campaign.standby ≠ none ∨ s.cfg.tuning.standbyEnable = false
        ∨ s.supply.mode ≠ .normal ∨ standbyCandidate u s.campaign.callPort = none
        ∨ (∃ slot e, standbyCandidate u s.campaign.callPort = some slot ∧ u.table.entry slot = some e
          ∧ (s.port e.port).call ≠ .none ∧ e.holds.standby = false) →
      exec .periodEnd s = .next
        (raise (.periodEnd ((s.survey.periodEnds + 1) % 65536) s.cfg.period s.cfg.compares s.survey.records)
          u))
    ∧ ∀ (slot : TableSlot) (e : Entry) (status : StandbyStatus) (after : PortContext),
      s.campaign.state = .talk → s.campaign.standby = none → s.cfg.tuning.standbyEnable = true →
      s.supply.mode = .normal → standbyCandidate u s.campaign.callPort = some slot →
      u.table.entry slot = some e → (s.port e.port).call = .none →
      (((s.port e.port).attachment = .attached e.net ∧ status = .ready ∧ after = s.port e.port)
        ∨ (BroughtTo s e.port slot e.net (.standby s.serial) after ∧ status = .preparing)) →
      exec .periodEnd s = .next
        (raise (.standby (some status) slot e.port none)
          (raise
            (.periodEnd ((s.survey.periodEnds + 1) % 65536) s.cfg.period s.cfg.compares s.survey.records)
            { u with
              serial := s.serial + 1
              table := u.table.onEntry slot fun x => { x with holds := { x.holds with standby := true } }
              campaign := { s.campaign with standby := some ⟨s.serial, slot, e.port, status⟩ }
              ports := s.ports.put e.port after }))

/-- 08 R156, 06 R116 to R118: a match at a port that passes the tests is SUBMITTED: an idle ON port sends the
SCAN, an OFF port a WAKE ahead of it, a port that is WAKING, SLEEPING or busy queues it; each test that fails
gives its reason, in the order of the tests; a full queue gives QUEUE_FULL. The due marks are the model's own
(log 2). -/
def Obligations.CompareMatches : Prop :=
  ∀ (s : State) (p : Port), s.survey.matchDue.get p = true →
    (∀ r : MatchRecord,
      ((s.port p).power = .disabled ∧ r = .skipped .disabled)
      ∨ (((s.port p).power = .fault ∨ (s.port p).power = .dead) ∧ r = .skipped .unavailable)
      ∨ ((s.port p).power.usable = true ∧ (s.supply.mode = .shed ∨ s.supply.mode = .cutoff)
          ∧ r = .skipped .supply)
      ∨ ((s.port p).power.usable = true ∧ (s.supply.mode = .normal ∨ s.supply.mode = .low)
          ∧ s.campaign.state ≠ .idle
          ∧ (s.campaign.callPort = some p ∨ (∃ b, s.campaign.standby = some b ∧ b.port = p)
            ∨ (∃ x, s.campaign.attempt = some x ∧ x.port = some p))
          ∧ r = .skipped .campaign)
      ∨ (((s.port p).power = .on ∨ (s.port p).power = .waking ∨ (s.port p).power = .sleeping)
          ∧ (s.supply.mode = .normal ∨ s.supply.mode = .low) ∧ s.campaign.state = .idle
          ∧ 4 ≤ (s.port p).queue.length ∧ r = .skipped .queueFull) →
      exec (.compareMatch p) s = .next { s with survey := { s.survey with
        matchDue := s.survey.matchDue.put p false, records := s.survey.records.put p r } })
    ∧ ∀ (scan : Order) (after : PortContext), scan = ⟨.scan, .survey s.survey.periodEnds⟩ →
      (s.supply.mode = .normal ∨ s.supply.mode = .low) → s.supply.halt = false →
      (s.campaign.state = .idle
        ∨ (s.campaign.callPort ≠ some p ∧ (∀ b, s.campaign.standby = some b → b.port ≠ p)
          ∧ ∀ x, s.campaign.attempt = some x → x.port ≠ some p)) →
      ((PortFree s p ∧ after = { s.port p with inFlight := some ⟨scan, 60⟩ })
        ∨ ((s.port p).power = .off ∧ (s.port p).queue = [] ∧ s.campaign.callbackPort ≠ some p
          ∧ after = { s.port p with
              power := .waking
              attachment := .none
              inFlight := some ⟨⟨.wake .demand, .port⟩, 20⟩
              queue := [scan] })
        ∨ (((s.port p).power = .waking ∨ (s.port p).power = .sleeping
            ∨ ((s.port p).power = .on ∧ ((s.port p).inFlight ≠ none ∨ (s.port p).queue ≠ [])))
          ∧ (s.port p).queue.length < 4
          ∧ after = { s.port p with queue := (s.port p).queue ++ [scan] })) →
      exec (.compareMatch p) s = .next { s with
        survey := { s.survey with
          matchDue := s.survey.matchDue.put p false, records := s.survey.records.put p .submitted }
        ports := s.ports.put p after }

/-- 09 R170, R171: the evaluation of the mode from a value v, with thresholds as R169 orders them: what the
falling target is, when it is taken, when the mode improves and to which mode, and that the rising conditions
nest and never pass the falling target. -/
def Obligations.ModeEvaluation : Prop :=
  ∀ (t : Thresholds) (mode : SupplyMode) (v : Nat), t.ordered →
    (fallingTarget t v = .cutoff ↔ v < t.cutoff)
    ∧ (fallingTarget t v = .shed ↔ t.cutoff ≤ v ∧ v < t.shed)
    ∧ (fallingTarget t v = .low ↔ t.shed ≤ v ∧ v < t.warn)
    ∧ (fallingTarget t v = .normal ↔ t.warn ≤ v)
    ∧ (mode.severity < (fallingTarget t v).severity → evaluateMode t mode v = fallingTarget t v)
    ∧ ((fallingTarget t v).severity ≤ mode.severity →
        (t.warn + 200 ≤ v → evaluateMode t mode v = .normal)
        ∧ (v < t.warn + 200 → t.shed + 200 ≤ v → 1 ≤ mode.severity → evaluateMode t mode v = .low)
        ∧ (v < t.shed + 200 → t.cutoff + 200 ≤ v → 2 ≤ mode.severity → evaluateMode t mode v = .shed)
        ∧ (mode = .normal → evaluateMode t mode v = .normal)
        ∧ (v < t.warn + 200 → mode = .low → evaluateMode t mode v = .low)
        ∧ (v < t.shed + 200 → mode = .shed → evaluateMode t mode v = .shed)
        ∧ (v < t.cutoff + 200 → mode = .cutoff → evaluateMode t mode v = .cutoff))
    ∧ (t.warn + 200 ≤ v → t.shed + 200 ≤ v) ∧ (t.shed + 200 ≤ v → t.cutoff + 200 ≤ v)
    ∧ (fallingTarget t v).severity ≤ (evaluateMode t mode v).severity

/-- 09 R167, R168, R172: conversions outside HALT: a start sets conversion pending and the interval at 10, or
60 in HALT; a completion stores v, four times the code; a mode that stays is told to no one, and a mode that
changes with no standby, outside CALLBACK and not into a HALT, is reported once. -/
def Obligations.Conversions : Prop :=
  (∀ s : State, s.supply.interval = 0 →
    exec .conversionStart s = .next { s with supply :=
      { s.supply with converting := true, interval := if s.supply.halt then 60 else 10 } })
  ∧ (∀ (s : State) (code : BitVec 12), s.supply.converting = true → s.supply.halt = false →
      ∃ t, exec (.conversionDone code) s = .next t
        ∧ (s.supply.interval ≠ 0 → t.supply.converting = false)
        ∧ t.supply.last = some (4 * code.toNat)
        ∧ t.supply.mode = evaluateMode s.cfg.thresholds s.supply.mode (4 * code.toNat)
        ∧ t.outside = s.outside)
  ∧ ∀ (s : State) (code : BitVec 12) (after : SupplyMode), s.supply.converting = true →
      s.supply.halt = false → after = evaluateMode s.cfg.thresholds s.supply.mode (4 * code.toNat) →
      (after ≠ .cutoff ∨ s.campaign.state ≠ .idle) →
      (after = s.supply.mode → exec (.conversionDone code) s = .next { s with supply :=
        { s.supply with converting := false, last := some (4 * code.toNat) } })
      ∧ (after ≠ s.supply.mode → s.campaign.standby = none → s.campaign.state ≠ .callback →
        exec (.conversionDone code) s = .next
          (raise (.supplyMode s.supply.mode after (some (4 * code.toNat))) { s with supply :=
            { s.supply with converting := false, last := some (4 * code.toNat), mode := after } }))

/-- 09 R167, R168, R175, R176, R178, 06 R136, 08 R154 to R156, R163, 11 R198: the notice of the campaign's return to
IDLE in CUTOFF enters HALT: ports that are ON or WAKING lose their orders, call and attachment and are sent
SLEEP, a SLEEPING port's queue goes, the Survey Timer is held at 0, HALT is reported last. Outside CUTOFF the
notice changes nothing else. In HALT a conversion at or above CUTOFF + 400 restarts the part with kind SUPPLY, whatever was
not committed lost; one below is only stored. A period end, matches and a conversion start (R167) that the last
tick made and no row has taken come first, as if their rows had (log 31). The count of notices (log 34), the due marks (log 2) and the
attachment of a SLEEPING port (log 24) are the model's choices. -/
def Obligations.HaltEnteredAndLeft : Prop :=
  (∀ s : State, 0 < s.supply.idleNotices → s.supply.mode = .cutoff → s.supply.halt = false →
    s.campaign = Campaign.inIdle → s.survey.periodEndDue = false → (∀ p, s.survey.matchDue.get p = false) →
    s.supply.interval ≠ 0 →
    ∃ u : State,
      exec .campaignIdleNotice s = .next
        (raise (.supplyHalt s.supply.last (s.cfg.thresholds.cutoff + 400)) u)
      ∧ u.supply = { s.supply with
          halt := true, interval := 60, idleNotices := s.supply.idleNotices - 1 }
      ∧ u.survey.holdHalt = true ∧ u.survey.counter = 0 ∧ u.survey.inForce = s.cfg.compares
      ∧ u.survey.holdHost = s.survey.holdHost ∧ u.survey.periodEnds = s.survey.periodEnds
      ∧ (∀ p, u.port p =
          match (s.port p).power with
          | .on | .waking => { s.port p with
              power := .sleeping, attachment := .none, call := .none, silenceTimer := none, queue := [],
              inFlight := some ⟨⟨.sleep, .port⟩, 5⟩ }
          | .sleeping => { s.port p with attachment := .none, queue := [] }
          | .off | .fault | .dead | .disabled => s.port p)
      ∧ u.campaign = s.campaign ∧ u.table = s.table ∧ u.log = s.log ∧ u.link = s.link
      ∧ u.outside = s.outside)
  ∧ (∀ s : State, 0 < s.supply.idleNotices → s.supply.mode = .cutoff → s.supply.halt = false →
    s.campaign.state = .idle →
    (s.supply.interval = 0 → ∃ t, exec .conversionStart s = .next t
      ∧ t.supply.converting = true ∧ exec .campaignIdleNotice s = exec .campaignIdleNotice t
      ∧ ∃ u, exec .campaignIdleNotice s = .next u ∧ u.supply.converting = true ∧ u.supply.interval = 60)
    ∧ (s.survey.periodEndDue = true → ∃ t, exec .periodEnd s = .next t
      ∧ exec .campaignIdleNotice s = exec .campaignIdleNotice t)
    ∧ ∀ p, s.survey.periodEndDue = false → s.survey.matchDue.get p = true →
      (∀ q, portNumber q < portNumber p → s.survey.matchDue.get q = false) →
      ∃ t, exec (.compareMatch p) s = .next t
        ∧ exec .campaignIdleNotice s = exec .campaignIdleNotice t)
  ∧ (∀ s : State, 0 < s.supply.idleNotices →
    (s.supply.mode ≠ .cutoff ∨ s.supply.halt = true ∨ s.campaign.state ≠ .idle) →
    exec .campaignIdleNotice s = .next { s with supply :=
      { s.supply with idleNotices := s.supply.idleNotices - 1 } })
  ∧ ∀ (s : State) (code : BitVec 12), s.supply.converting = true → s.supply.halt = true →
    (4 * code.toNat < s.cfg.thresholds.cutoff + 400 →
      exec (.conversionDone code) s = .next { s with supply :=
        { s.supply with converting := false, last := some (4 * code.toNat) } })
    ∧ (s.cfg.thresholds.cutoff + 400 ≤ 4 * code.toNat →
      ∃ t, exec (.conversionDone code) s = .next t
        ∧ t.supply = Supply.afterReset ∧ t.campaign = Campaign.inIdle ∧ t.table = NetTable.free
        ∧ t.log = AttemptLog.empty ∧ t.cfg = loadedConfig s.store
        ∧ t.survey = Survey.afterReset t.cfg.compares
        ∧ ∃ storeDefaults, t.link.outbound =
            [.report (.start .supply storeDefaults s.straps.fitted s.straps.rate)])

/-! ## Frames of the host line -/

/-- 10 R184, R185, R187, R190: where a reply and a report go. A reply takes the next slot of the outbound
queue with the pending set as it stands, and the link flags at once where it is the head; an enabled report
takes a slot while the queue holds 6 frames or fewer, and its class joins the pending set otherwise. -/
def Obligations.FramesPlaced : Prop :=
  (∀ (type : Byte) (code : ReplyCode) (contents : Contents) (s : State), s.link.outbound.length < 8 →
    (s.link.outbound = [] →
      placeReply type code contents s = { s with link := { s.link with
        outbound := [.reply
          ⟨type, code, s.link.frameError, s.link.overrun, s.link.pendingSet, contents⟩],
        frameError := false, overrun := false } })
    ∧ (s.link.outbound ≠ [] →
      placeReply type code contents s = { s with link := { s.link with
        outbound := s.link.outbound
          ++ [.reply ⟨type, code, false, false, s.link.pendingSet, contents⟩] } }))
  ∧ ∀ (r : Report) (s : State),
    (r.cls = none →
      raise r s = { s with link := { s.link with outbound := s.link.outbound ++ [.report r] } })
    ∧ ∀ c, r.cls = some c →
      (s.cfg.mask.has c = true → s.link.outbound.length ≤ 6 →
        raise r s = { s with link := { s.link with outbound := s.link.outbound ++ [.report r] } })
      ∧ (s.cfg.mask.has c = false ∨ 6 < s.link.outbound.length →
        raise r s = { s with link := { s.link with pendingSet := s.link.pendingSet.insert c } })

/-- 10 R181, R183, R186: bytes on an idle host line. A whole good frame of any type arrives and waits while the
link is held; a wrong CRC or LEN sets FRAME_ERROR and the receiver hunts; bytes without A5h are passed over; a
gap abandons a partial frame. That a good frame among raw bytes is taken as its bytes say follows log 6. -/
def Obligations.HostLineBytes : Prop :=
  (∀ (s : State) (f : Frame), s.link.rx = .hunting → f.payload.length ≤ 199 →
    exec (.hostFrameReceived f.line) s = exec (.unknownRequest f.type f.payload) s
    ∧ (LinkHeld s → s.link.inbound.length < 4 →
      exec (.hostFrameReceived f.line) s = .next
        { s with link := { s.link with inbound := s.link.inbound ++ [f] } }))
  ∧ (∀ (s : State) (type hi lo : Byte) (payload : List Byte), s.link.rx = .hunting →
      payload.length ≤ 199 →
      crc16 (byteOf (payload.length + 1) :: type :: payload) ≠ hi ++ lo →
      exec (.hostFrameReceived (0xA5 :: byteOf (payload.length + 1) :: type :: (payload ++ [hi, lo]))) s
        = .next { s with link := { s.link with frameError := true } })
  ∧ (∀ (s : State) (len : Byte), s.link.rx = .hunting → (len = 0 ∨ 200 < len.toNat) →
      exec (.hostFrameReceived [0xA5, len]) s = .next { s with link := { s.link with frameError := true } })
  ∧ (∀ (s : State) (bytes : List Byte), s.link.rx = .hunting → 0xA5 ∉ bytes →
      exec (.hostFrameReceived bytes) s = .next s)
  ∧ ∀ s : State, (s.link.rx = .hunting → exec .receiveGap s = .next s)
      ∧ ∀ bytes, s.link.rx = .collecting bytes →
        exec .receiveGap s = .next { s with link := { s.link with rx := .hunting, frameError := true } }

/-- 07 R141, R143: bytes on an idle module line. A whole good frame is its notice; a wrong CRC or LEN is passed
over without a flag; a gap leaves the receiver hunting; a type that is no notice is discarded. That a good
frame among raw bytes is taken as its bytes say follows log 6. -/
def Obligations.ModuleLineBytes : Prop :=
  (∀ (s : State) (p : Port) (f : Frame), (s.port p).rx = .hunting → f.payload.length ≤ 199 →
    exec (.moduleFrameError p f.line) s = exec (.unknownNotice p f.type f.payload) s)
  ∧ (∀ (s : State) (p : Port) (type hi lo : Byte) (payload : List Byte), (s.port p).rx = .hunting →
      payload.length ≤ 199 →
      crc16 (byteOf (payload.length + 1) :: type :: payload) ≠ hi ++ lo →
      exec (.moduleFrameError p (0xA5 :: byteOf (payload.length + 1) :: type :: (payload ++ [hi, lo]))) s
        = .next s)
  ∧ (∀ (s : State) (p : Port) (len : Byte), (s.port p).rx = .hunting → (len = 0 ∨ 200 < len.toNat) →
      exec (.moduleFrameError p [0xA5, len]) s = .next s)
  ∧ (∀ (s : State) (p : Port), exec (.moduleReceiveGap p) s = .next (moduleIdle p s))
  ∧ ∀ (s : State) (p : Port) (type : Byte) (payload : List Byte), (type.toNat < 0xA1 ∨ 0xAB < type.toNat) →
      exec (.unknownNotice p type payload) s = .next (moduleIdle p s)

/-- 10 R183 to R186, R194: the head frame's last byte leaves. The frame behind it begins to leave and, where it
is a reply, takes the link flags with it. Requests that wait are then taken, oldest first, as if the newest of
them had just come to the link with that slot free; after an accepted RESET's reply the part starts up with
kind LINK. An empty line sends nothing. -/
def Obligations.FrameLeaves : Prop :=
  (∀ s : State, s.link.outbound = [] → exec .outboundFrameSent s = .next s)
  ∧ (∀ (s : State) (f : OutFrame) (rest : List OutFrame) (left : Link), s.link.outbound = f :: rest →
      s.link.resetPending = false →
      ((∃ r tail, rest = .reply r :: tail ∧ left = { s.link with
          outbound := .reply { r with frameError := s.link.frameError, overrun := s.link.overrun } :: tail,
          frameError := false, overrun := false })
        ∨ ((∀ r tail, rest ≠ .reply r :: tail) ∧ left = { s.link with outbound := rest })) →
      (s.link.inbound = [] → exec .outboundFrameSent s = .next { s with link := left })
      ∧ ∀ (waiting : List Frame) (g : Frame), s.link.inbound = waiting ++ [g] → waiting.length < 4 →
        s.link.rx = .hunting →
        exec .outboundFrameSent s
          = exec (.unknownRequest g.type g.payload) { s with link := { left with inbound := waiting } }
        ∧ ∀ r : Request, g = encodeRequest r →
          exec .outboundFrameSent s = exec r.command { s with link := { left with inbound := waiting } })
  ∧ (∀ (s : State) (f : OutFrame) (rest : List OutFrame) (r : Report) (g : Frame),
      s.link.outbound = f :: .report r :: rest → rest.length ≤ 6 → s.link.resetPending = false →
      s.store.writing = none → s.link.inbound = [g] → g.type = 0x10 →
      exec .outboundFrameSent s = .next
        (placeReply 0x90 .ok (.pendingRead s.link.pendingSet) { s with link := { s.link with
          outbound := .report r :: rest, inbound := [], pendingSet := ReportSet.empty } }))
  ∧ ∀ (s : State) (r : Reply) (rest : List OutFrame), s.link.outbound = .reply r :: rest →
      s.link.resetPending = true → r.type = 0x96 → r.code = .ok →
      ∃ t, exec .outboundFrameSent s = .next t ∧ t.campaign = Campaign.inIdle ∧ t.table = NetTable.free
        ∧ t.log = AttemptLog.empty ∧ t.supply = Supply.afterReset ∧ t.cfg = loadedConfig s.store
        ∧ t.link.inbound = [] ∧ t.link.resetPending = false ∧ t.pending = s.pending
        ∧ ∃ storeDefaults, t.link.outbound =
          [.report (.start .link storeDefaults s.straps.fitted s.straps.rate)]

/-- 10 R183, R186, R187: a request on a held link waits, up to four, and sets OVERRUN beyond; on a ready link
an unknown type is answered 80h UNKNOWN, and a type of section 10.4 that needs fields and has none is answered
BAD_ARGUMENT without contents, which for READ_PLAN is the model's reading (log 42). That a request row is the frame's
arrival follows log 4. -/
def Obligations.FramesQueuedOrAnswered : Prop :=
  (∀ (r : Request) (s : State), LinkHeld s →
    (s.link.inbound.length < 4 → exec r.command s = .next { s with link := { s.link with
      rx := .hunting, inbound := s.link.inbound ++ [encodeRequest r] } })
    ∧ (4 ≤ s.link.inbound.length → exec r.command s = .next { s with link := { s.link with
      rx := .hunting, overrun := true } }))
  ∧ ∀ (s : State) (type : Byte), LinkReady s →
    (∀ payload, (type = 0 ∨ 0x16 < type.toNat) →
      exec (.unknownRequest type payload) s = .next (placeReply 0x80 .unknown .none (lineIdle s)))
    ∧ ((0x04 ≤ type.toNat ∧ type.toNat ≤ 0x0F) ∨ (0x11 ≤ type.toNat ∧ type.toNat ≤ 0x13) ∨ type = 0x16 →
      exec (.unknownRequest type []) s = .next (placeReply (type + 0x80) .badArgument .none (lineIdle s)))

/-! ## Requests that read -/

/-- 10 R188, 05 R112, R113: STATUS shows the campaign, the standby, the supply, the ports, the pending set and
the mask; READ_LOG shows up to four records from a position, and the summary or what there is without one. None
changes anything but the link. An empty list beyond the records is the model's reading (log 33). -/
def Obligations.StatusAndLogRead : Prop :=
  (∀ s : State, LinkReady s →
    ∃ v : StatusView, exec .status s = .next (placeReply 0x81 .ok (.status v) (lineIdle s))
      ∧ v.state = s.campaign.state ∧ v.phase = s.campaign.phase ∧ v.origin = s.campaign.origin
      ∧ (∀ x, s.campaign.attempt = some x → v.number = x.number)
      ∧ (s.campaign.attempt = none → v.number = none)
      ∧ v.recoveries = s.campaign.recoveries ∧ v.presses = s.campaign.presses ∧ v.route = s.campaign.route
      ∧ (∀ b, s.campaign.standby = some b → v.standby = some (b.entry, b.port, b.status))
      ∧ (s.campaign.standby = none → v.standby = none)
      ∧ v.callbackPort = s.campaign.callbackPort ∧ v.mode = s.supply.mode ∧ v.halt = s.supply.halt
      ∧ v.last = s.supply.last ∧ v.converting = s.supply.converting
      ∧ (∀ p, v.ports.get p =
          ⟨s.board.fitted.get p, (s.port p).power, (s.port p).attachment, (s.port p).call,
            (s.port p).attention, (s.port p).restartCount⟩)
      ∧ v.pendingSet = s.link.pendingSet ∧ v.mask = s.cfg.mask)
  ∧ (∀ (s : State) (position count : Byte), LinkReady s →
    (position.toNat ≤ 15 → 1 ≤ count.toNat → count.toNat ≤ 4 →
      ∃ records, exec (.readLogRecords position count) s = .next
          (placeReply 0x8F .ok
            (.logRecords s.log.records.length s.log.truncated s.log.counter
              (s.log.records.head?.map AttemptRecord.number) (decide (s.campaign.state ≠ .idle)) records)
            (lineIdle s))
        ∧ records.length = min count.toNat (s.log.records.length - position.toNat)
        ∧ ∀ i, i < records.length → records[i]? = s.log.records[position.toNat + i]?)
    ∧ (15 < position.toNat ∨ count = 0 ∨ 4 < count.toNat →
      exec (.readLogRecords position count) s = .next (placeReply 0x8F .badArgument .none (lineIdle s))))
  ∧ ∀ s : State, LinkReady s →
    (∀ m, s.log.summary = some m →
      exec .readLogSummary s = .next (placeReply 0x8F .ok (.logSummary m) (lineIdle s)))
    ∧ (s.log.summary = none →
      exec .readLogSummary s = .next
        (placeReply 0x8F .ok
          (.logNoSummary s.log.records.length s.log.counter (decide (s.campaign.state ≠ .idle)))
          (lineIdle s)))

/-- 01 R26, 02 R52: READ_TABLE by slot shows consecutive slots up to slot 23, in ranked order the entries from
a position; READ_PLAN shows consecutive plan slots past 63 into 0, a destination, or the box record, each with
the entry slot. Values outside their ranges and an unknown selector of READ_PLAN are answered BAD_ARGUMENT, a
READ_PLAN with the entry slot all the same; nothing but the link changes. An empty list beyond the ranked order is
the model's reading (log 33), and so is that an unknown selector is long enough by itself (log 42). -/
def Obligations.TableAndPlanRead : Prop :=
  (∀ (s : State) (first count : Byte), LinkReady s →
    (first.toNat ≤ 23 → 1 ≤ count.toNat → count.toNat ≤ 6 →
      ∃ items, exec (.readTableBySlot first count) s = .next
          (placeReply 0x8D .ok (.slots items) (lineIdle s))
        ∧ items.map (fun x => x.1.val) =
          List.range' first.toNat (min count.toNat (24 - first.toNat))
        ∧ ∀ x ∈ items, x.2 = s.table.entry x.1)
    ∧ (23 < first.toNat ∨ count = 0 ∨ 6 < count.toNat →
      exec (.readTableBySlot first count) s = .next (placeReply 0x8D .badArgument .none (lineIdle s))))
  ∧ (∀ (s : State) (position count : Byte), LinkReady s →
    (1 ≤ count.toNat → count.toNat ≤ 6 →
      ∃ items, exec (.readTableRanked position count) s = .next
          (placeReply 0x8D .ok (.ranked items) (lineIdle s))
        ∧ items.map (fun x => x.2.1) =
          List.range' position.toNat (min count.toNat (s.table.ranked.length - position.toNat))
        ∧ ∀ x ∈ items, s.table.ranked[x.2.1]? = some (x.1, x.2.2))
    ∧ (count = 0 ∨ 6 < count.toNat →
      exec (.readTableRanked position count) s = .next (placeReply 0x8D .badArgument .none (lineIdle s))))
  ∧ (∀ (s : State) (first count : Byte), LinkReady s →
    (first.toNat < 64 → 1 ≤ count.toNat → count.toNat ≤ 8 →
      ∃ items, exec (.readPlanSteps first count) s = .next
          (placeReply 0x8E .ok (.planSteps items s.cfg.tuning.entrySlot) (lineIdle s))
        ∧ items.map (fun x => x.1.val) =
          (List.range count.toNat).map (fun i => (first.toNat + i) % 64)
        ∧ ∀ x ∈ items, x.2 = s.cfg.steps.get x.1)
    ∧ (63 < first.toNat ∨ count = 0 ∨ 8 < count.toNat →
      exec (.readPlanSteps first count) s = .next
        (placeReply 0x8E .badArgument (.planRefused s.cfg.tuning.entrySlot) (lineIdle s))))
  ∧ ∀ s : State, LinkReady s →
    exec .readPlanBox s = .next
      (placeReply 0x8E .ok (.planBox s.cfg.box s.cfg.tuning.entrySlot) (lineIdle s))
    ∧ (∀ n : DestNumber, exec (.readPlanDestination (byteOf n.val)) s = .next
        (placeReply 0x8E .ok (.planDestination (s.cfg.directory.get n) s.cfg.tuning.entrySlot) (lineIdle s)))
    ∧ (∀ number : Byte, 7 < number.toNat →
        exec (.readPlanDestination number) s = .next
          (placeReply 0x8E .badArgument (.planRefused s.cfg.tuning.entrySlot) (lineIdle s)))
    ∧ ∀ (selector : Byte) (more : List Byte), selector ≠ 1 → selector ≠ 2 → selector ≠ 3 →
        exec (.unknownRequest 0x0E (selector :: more)) s = .next
          (placeReply 0x8E .badArgument (.planRefused s.cfg.tuning.entrySlot) (lineIdle s))

/-! ## Requests that set -/

/-- 10 R189, 01 R19, 04 R87: SET_TUNING keeps what is absent and clamps what is carried, recomputes every
score, and clears a standby whose enable it turns off, the reply ahead of the report. Flag bytes other than 0
and 1 are taken as set (log 22). -/
def Obligations.TuningSet : Prop :=
  ∀ (s : State) (a : TuningArgs) (t : Tuning), LinkReady s →
    (a.floor = none → t.floor = s.cfg.tuning.floor) → (∀ w, a.floor = some w → t.floor = min 780 w.toNat) →
    (a.ringTimeout = none → t.ringTimeout = s.cfg.tuning.ringTimeout) →
    (∀ b, a.ringTimeout = some b → t.ringTimeout = max 10 (min 120 b.toNat)) →
    (a.callbackWindow = none → t.callbackWindow = s.cfg.tuning.callbackWindow) →
    (∀ w, a.callbackWindow = some w → t.callbackWindow = min 3600 w.toNat) →
    (a.recoveryLimit = none → t.recoveryLimit = s.cfg.tuning.recoveryLimit) →
    (∀ b, a.recoveryLimit = some b → t.recoveryLimit = min 7 b.toNat) →
    (a.standbyEnable = none → t.standbyEnable = s.cfg.tuning.standbyEnable) →
    (∀ b, a.standbyEnable = some b → (t.standbyEnable = true ↔ b ≠ 0)) →
    (a.answerInIdle = none → t.answerInIdle = s.cfg.tuning.answerInIdle) →
    (∀ b, a.answerInIdle = some b → (t.answerInIdle = true ↔ b ≠ 0)) →
    (a.entrySlot = none → t.entrySlot = s.cfg.tuning.entrySlot) →
    (∀ b, a.entrySlot = some b → t.entrySlot.val = min 63 b.toNat) →
    ∃ u : State,
      u = placeReply 0x84 .ok (.tuning t) { lineIdle s with
        cfg := { s.cfg with tuning := t }
        table := { s.table with
          slots := s.table.slots.map fun o => o.map (rescore s.cfg.preferences) } }
      ∧ (s.campaign.standby = none ∨ s.cfg.tuning.standbyEnable = false ∨ t.standbyEnable = true →
        exec (.setTuning a) s = .next u)
      ∧ ∀ b, s.campaign.standby = some b → s.cfg.tuning.standbyEnable = true → t.standbyEnable = false →
        exec (.setTuning a) s = .next (raise (.standby none b.entry b.port (some .disabled))
          { u with
            campaign := { s.campaign with standby := none }
            table := u.table.onEntry b.entry fun e =>
              { e with holds := { e.holds with standby := false } } })

/-- 09 R169, R174: SET_SUPPLY keeps what is absent, clamps WARN, then SHED, then CUTOFF, each by the one
before it, and shows the thresholds with the mode, the HALT flag, the last value and whether a conversion
runs. The thresholds come out in their order; the mode is not evaluated. -/
def Obligations.ThresholdsSet : Prop :=
  ∀ (s : State) (a : SupplyArgs) (w x y : Nat) (t : Thresholds), LinkReady s →
    (a.warn = none → w = s.cfg.thresholds.warn) → (∀ v, a.warn = some v → w = v.toNat) →
    (a.shed = none → x = s.cfg.thresholds.shed) → (∀ v, a.shed = some v → x = v.toNat) →
    (a.cutoff = none → y = s.cfg.thresholds.cutoff) → (∀ v, a.cutoff = some v → y = v.toNat) →
    t.warn = max 9400 (min 15000 w) → t.shed = max 9200 (min (t.warn - 200) x) →
    t.cutoff = max 9000 (min (t.shed - 200) y) →
    t.ordered
    ∧ exec (.setSupply a) s = .next
      (placeReply 0x85 .ok
        (.supply t s.supply.mode s.supply.halt s.supply.last s.supply.converting)
        { lineIdle s with cfg := { s.cfg with thresholds := t } })

/-- 08 R154 to R156, R159 to R162: SET_SURVEY clamps the period and the compares, takes policies only where all
four are known, and puts carried compares in force at once while the timer is held; HOLD stops the counter at 0 with the
buffered compares in force; RELEASE empties the host's hold. Each shows the timer as it then stands. HOLD takes
a period end or matches that the last tick made and no row has taken first, as if their rows had come before it
(R154; that they are still waiting follows logs 2 and 31). SET_SURVEY leaves such a period end waiting, which is
the model's choice (log 45). -/
def Obligations.SurveySet : Prop :=
  (∀ (s : State) (a : SurveyArgs) (period : Nat) (compares inForce : PerPort Nat)
      (policies : PerPort Policy), LinkReady s →
    (a.period = none → period = s.cfg.period) →
    (∀ w, a.period = some w → period = max 30 (min 4095 w.toNat)) →
    (a.compares = none → compares = s.cfg.compares ∧ inForce = s.survey.inForce) →
    (∀ c, a.compares = some c → (∀ p, compares.get p = min 4095 (c.get p).toNat)
      ∧ inForce = if s.survey.holdHost = true ∨ s.survey.holdHalt = true then compares
        else s.survey.inForce) →
    (a.policies = none → policies = s.cfg.policies) →
    (∀ q, a.policies = some q → ∀ p, (q.get p = 1 ∧ policies.get p = .keepWarm)
      ∨ (q.get p = 2 ∧ policies.get p = .onDemand)) →
    exec (.setSurvey a) s = .next
      (placeReply 0x86 .ok
        (.survey period compares inForce policies s.survey.counter s.survey.holdHost s.survey.holdHalt
          s.survey.periodEnds)
        { lineIdle s with
          cfg := { s.cfg with period := period, compares := compares, policies := policies }
          survey := { s.survey with inForce := inForce } }))
  ∧ (∀ (s : State) (a : SurveyArgs) (q : PerPort Byte) (p : Port), LinkReady s → a.policies = some q →
    q.get p ≠ 1 → q.get p ≠ 2 →
    exec (.setSurvey a) s = .next (placeReply 0x86 .badArgument .none (lineIdle s)))
  ∧ ∀ s : State, LinkReady s →
    (s.survey.periodEndDue = false → (∀ p, s.survey.matchDue.get p = false) →
      exec .surveyHold s = .next
        (placeReply 0x87 .ok
          (.hold true s.survey.holdHalt 0 s.cfg.period s.cfg.compares s.survey.periodEnds)
          { lineIdle s with survey := { s.survey with
            holdHost := true, counter := 0, inForce := s.cfg.compares } }))
    ∧ (s.survey.periodEndDue = true → ∃ t, exec .periodEnd s = .next t
      ∧ exec .surveyHold s = exec .surveyHold t)
    ∧ (∀ p, s.survey.periodEndDue = false → s.survey.matchDue.get p = true →
      (∀ q, portNumber q < portNumber p → s.survey.matchDue.get q = false) →
      ∃ t, exec (.compareMatch p) s = .next t ∧ exec .surveyHold s = exec .surveyHold t)
    ∧ exec .surveyRelease s = .next
      (placeReply 0x87 .ok
        (.hold false s.survey.holdHalt s.survey.counter s.cfg.period s.survey.inForce s.survey.periodEnds)
        { lineIdle s with survey := { s.survey with holdHost := false } })

/-- 08 R165, 06 R116 to R118: SURVEY_NOW submits a SCAN to each named port and shows which accepted it and why
the others did not: an idle ON port sends it at once, an OFF port sends a WAKE ahead of it, a port that is
WAKING, SLEEPING or busy queues it; a full queue and a port that takes no orders, in HALT every port, refuse
it. The empty set names no port and is answered OK. A set that names a port outside P0 to P3 is answered
BAD_ARGUMENT and submits nothing. -/
def Obligations.SurveyOnRequest : Prop :=
  ∀ (s : State) (ports : Byte), LinkReady s →
    (16 ≤ ports.toNat →
      exec (.surveyNow ports) s = .next (placeReply 0x88 .badArgument .none (lineIdle s)))
    ∧ ∀ (named : Port → Bool) (answer : Port → SubmitAnswer) (after : Port → PortContext),
      ports = (if named .p0 then 1 else 0) ||| (if named .p1 then 2 else 0) ||| (if named .p2 then 4 else 0)
        ||| (if named .p3 then 8 else 0) →
      (∀ p, named p = true →
        (PortFree s p ∧ answer p = .accepted
          ∧ after p = { s.port p with inFlight := some ⟨⟨.scan, .host⟩, 60⟩ })
        ∨ ((s.port p).power = .off ∧ s.supply.halt = false ∧ (s.port p).queue = []
          ∧ s.campaign.callbackPort ≠ some p ∧ answer p = .accepted
          ∧ after p = { s.port p with
              power := .waking
              attachment := .none
              inFlight := some ⟨⟨.wake .demand, .port⟩, 20⟩
              queue := [⟨.scan, .host⟩] })
        ∨ (((s.port p).power = .waking ∨ (s.port p).power = .sleeping
            ∨ ((s.port p).power = .on ∧ ((s.port p).inFlight ≠ none ∨ (s.port p).queue ≠ [])))
          ∧ s.supply.halt = false ∧ (s.port p).queue.length < 4 ∧ answer p = .accepted
          ∧ after p = { s.port p with queue := (s.port p).queue ++ [⟨.scan, .host⟩] })
        ∨ (((s.port p).power = .disabled ∨ (s.port p).power = .fault ∨ (s.port p).power = .dead
            ∨ s.supply.halt = true)
          ∧ answer p = .unavailable)
        ∨ (((s.port p).power = .on ∨ (s.port p).power = .waking ∨ (s.port p).power = .sleeping)
          ∧ s.supply.halt = false ∧ 4 ≤ (s.port p).queue.length ∧ answer p = .queueFull)) →
      exec (.surveyNow ports) s = .next
        (placeReply 0x88 .ok
          (.surveyNow (PerPort.build fun p => named p && answer p == .accepted)
            ([Port.p0, .p1, .p2, .p3].filterMap fun p =>
              if named p && answer p != .accepted then some (p, answer p) else none))
          { lineIdle s with
            ports := PerPort.build fun p =>
              if named p && answer p == .accepted then after p else s.port p })

/-- 02 R27, R49, R50: LOAD_STEPS stores 1 to 8 records into consecutive slots, past 63 into 0; one bad record
or slot refuses all, and a campaign that walks or may resume the plan is answered BUSY. A record is brought to
its stored form: the fields its action does not use are dropped, and a value outside its range refuses it. A
more flag other than 0 and 1 is taken as set (log 22). -/
def Obligations.StepsLoaded : Prop :=
  (∀ (s : State) (first : Byte) (records : List StepBytes), LinkReady s → records.length ≤ 39 →
    (s.campaign.state ≠ .idle → s.campaign.state ≠ .callback →
      exec (.loadSteps first records) s = .next (placeReply 0x89 .busy .none (lineIdle s)))
    ∧ ((s.campaign.state = .idle ∨ s.campaign.state = .callback) →
      (records = [] ∨ 8 < records.length ∨ 63 < first.toNat ∨ (∃ r ∈ records, stepOf? r = none) →
        exec (.loadSteps first records) s = .next (placeReply 0x89 .badArgument .none (lineIdle s)))
      ∧ ∀ (slot : PlanSlot) (steps : List PlanStep), slot.val = first.toNat →
        1 ≤ records.length → records.length ≤ 8 → records.map stepOf? = steps.map some →
        ∃ v : Vector PlanStep 64,
          exec (.loadSteps first records) s = .next
            (placeReply 0x89 .ok .none { lineIdle s with cfg := { s.cfg with steps := v } })
          ∧ (∀ i x, steps[i]? = some x → v.get (slot + Fin.ofNat 64 i) = x)
          ∧ ∀ other : PlanSlot, (∀ i, i < steps.length → other ≠ slot + Fin.ofNat 64 i) →
            v.get other = s.cfg.steps.get other))
  ∧ ∀ (more operand filter tries : Byte) (set : ClassSet),
    set = ⟨filter.getLsbD 0, filter.getLsbD 1, filter.getLsbD 2⟩ →
    (∀ d : DestNumber, operand.toNat = d.val → 1 ≤ tries.toNat → tries.toNat ≤ 7 →
      stepOf? ⟨1, more, operand, filter, tries⟩ = some (.dial d set tries.toNat (decide (more ≠ 0))))
    ∧ (7 < operand.toNat ∨ tries = 0 ∨ 7 < tries.toNat → stepOf? ⟨1, more, operand, filter, tries⟩ = none)
    ∧ (operand ≠ 0 → stepOf? ⟨2, more, operand, filter, tries⟩
        = some (.wait operand.toNat (decide (more ≠ 0))))
    ∧ stepOf? ⟨2, more, 0, filter, tries⟩ = none
    ∧ stepOf? ⟨3, more, operand, filter, tries⟩ = some (.resurvey (decide (more ≠ 0)))
    ∧ stepOf? ⟨4, more, 1, filter, tries⟩ = some (.test (.noCandidate set))
    ∧ stepOf? ⟨4, more, 2, filter, tries⟩ = some (.test .supplyLow)
    ∧ stepOf? ⟨4, more, 3, filter, tries⟩ = some (.test .afterLoss)
    ∧ stepOf? ⟨4, more, 4, filter, tries⟩ = some (.test .pressed)
    ∧ (operand = 0 ∨ 4 < operand.toNat → stepOf? ⟨4, more, operand, filter, tries⟩ = none)
    ∧ (∀ slot : PlanSlot, operand.toNat = slot.val →
        stepOf? ⟨5, more, operand, filter, tries⟩ = some (.goto slot)
        ∧ stepOf? ⟨6, more, operand, filter, tries⟩ = some (.invoke slot))
    ∧ (63 < operand.toNat → stepOf? ⟨5, more, operand, filter, tries⟩ = none
        ∧ stepOf? ⟨6, more, operand, filter, tries⟩ = none)
    ∧ stepOf? ⟨7, more, operand, filter, tries⟩ = some .ret
    ∧ ∀ action : Byte, action = 0 ∨ 7 < action.toNat →
        stepOf? ⟨action, more, operand, filter, tries⟩ = none

/-- 02 R47, R48: LOAD_DESTINATION stores up to 20 dialling characters and a data flag at a number 0 to 7;
SET_BOX_RECORD keeps the first 16 and 32 characters of printable texts and answers how many it kept. Anything
else is answered BAD_ARGUMENT and stores nothing. A data flag other than 0 and 1 is taken as set (log 22). -/
def Obligations.DestinationAndBoxLoaded : Prop :=
  (∀ (s : State) (number dataFlag : Byte) (digits : List Byte), LinkReady s → digits.length ≤ 196 →
    (∀ n : DestNumber, number.toNat = n.val → digits.length ≤ 20 →
      (∀ b ∈ digits, (0x30 ≤ b.toNat ∧ b.toNat ≤ 0x39) ∨ b = 0x2A ∨ b = 0x23) →
      exec (.loadDestination number digits dataFlag) s = .next
        (placeReply 0x8A .ok .none { lineIdle s with
          cfg := { s.cfg with directory := s.cfg.directory.set n ⟨digits, decide (dataFlag ≠ 0)⟩ } }))
    ∧ (7 < number.toNat ∨ 20 < digits.length
        ∨ (∃ b ∈ digits, (b.toNat < 0x30 ∨ 0x39 < b.toNat) ∧ b ≠ 0x2A ∧ b ≠ 0x23) →
      exec (.loadDestination number digits dataFlag) s = .next
        (placeReply 0x8A .badArgument .none (lineIdle s))))
  ∧ ∀ (s : State) (identity location : List Byte), LinkReady s →
    identity.length + location.length ≤ 197 →
    (identity ≠ [] → (∀ b ∈ identity ++ location, 0x20 ≤ b.toNat ∧ b.toNat ≤ 0x7E) →
      exec (.setBoxRecord identity location) s = .next
        (placeReply 0x8C .ok (.textKept (min 16 identity.length) (min 32 location.length)) { lineIdle s with
          cfg := { s.cfg with box := ⟨identity.take 16, location.take 32⟩ } }))
    ∧ (identity = [] ∨ (∃ b ∈ identity ++ location, b.toNat < 0x20 ∨ 0x7E < b.toNat) →
      exec (.setBoxRecord identity location) s = .next (placeReply 0x8C .badArgument .none (lineIdle s)))

/-- 01 R15, R16, R19: SET_PREFERENCES replaces the whole list and recomputes every score; more than 8
records, an operator code above 999999 or a byte that is no preference refuses it whole. -/
def Obligations.PreferencesSet : Prop :=
  ∀ (s : State) (records : List PreferenceBytes), LinkReady s → records.length ≤ 49 →
    (∀ list : List PreferenceRecord, records.length ≤ 8 → list.length = records.length →
      (∀ (i : Nat) (r : PreferenceBytes) (x : PreferenceRecord), records[i]? = some r → list[i]? = some x →
        r.operator.toNat ≤ 999999 ∧ x.operator = r.operator.toNat
        ∧ ((r.preference = 0xFF ∧ x.preference = .bar)
          ∨ ∃ n : Fin 4, r.preference.toNat = n.val ∧ x.preference = .weight n)) →
      exec (.setPreferences records) s = .next
        (placeReply 0x8B .ok .none { lineIdle s with
          cfg := { s.cfg with preferences := list }
          table := { s.table with slots := s.table.slots.map fun o => o.map (rescore list) } }))
    ∧ (8 < records.length
        ∨ (∃ r ∈ records, 999999 < r.operator.toNat
          ∨ (4 ≤ r.preference.toNat ∧ r.preference.toNat ≤ 254)) →
      exec (.setPreferences records) s = .next (placeReply 0x8B .badArgument .none (lineIdle s)))

/-- 10 R191, R192: SET_REPORTS replaces the mask, unless bit 6 or 7 names a class there is not; READ_PENDING
shows the pending set and empties it, its reply carrying the set already empty. -/
def Obligations.ReportRequests : Prop :=
  ∀ s : State, LinkReady s →
    (∀ mask : Byte, mask.toNat < 64 →
      exec (.setReports mask) s = .next
        (placeReply 0x91 .ok
          (.mask ⟨mask.getLsbD 0, mask.getLsbD 1, mask.getLsbD 2, mask.getLsbD 3, mask.getLsbD 4,
            mask.getLsbD 5⟩ s.link.pendingSet)
          { lineIdle s with cfg := { s.cfg with
            mask := ⟨mask.getLsbD 0, mask.getLsbD 1, mask.getLsbD 2, mask.getLsbD 3, mask.getLsbD 4,
              mask.getLsbD 5⟩ } }))
    ∧ (∀ mask : Byte, 64 ≤ mask.toNat →
      exec (.setReports mask) s = .next (placeReply 0x91 .badArgument .none (lineIdle s)))
    ∧ exec .readPending s = .next
      (placeReply 0x90 .ok (.pendingRead s.link.pendingSet)
        { s with link := { s.link with rx := .hunting, pendingSet := ReportSet.empty } })

/-- 06 R139, 01 R25: CLEAR_ATTENTION shows the sets of the named ports and empties them; CLEAR_TABLE frees
every entry that is not held, answers how many it freed and kept, and reports CLEARED after its reply. That
bits 4 to 7 of the port set are ignored is the model's choice (log 23). -/
def Obligations.ClearRequests : Prop :=
  (∀ (s : State) (ports : Byte), LinkReady s →
    exec (.clearAttention ports) s = .next
      (placeReply 0x93 .ok
        (.attention
          ((if ports.getLsbD 0 then [(Port.p0, (s.port .p0).attention)] else [])
            ++ (if ports.getLsbD 1 then [(Port.p1, (s.port .p1).attention)] else [])
            ++ (if ports.getLsbD 2 then [(Port.p2, (s.port .p2).attention)] else [])
            ++ (if ports.getLsbD 3 then [(Port.p3, (s.port .p3).attention)] else [])))
        { lineIdle s with
          ports := PerPort.build fun p =>
            if ports.getLsbD (portNumber p) then
              { s.port p with attention := ⟨false, false, false, false⟩ }
            else s.port p }))
  ∧ ∀ (s : State) (freed kept : Nat), LinkReady s →
    freed = ((List.finRange 24).filter fun i =>
      (s.table.entry i).any fun e => decide (e.holds = Holds.empty)).length →
    kept = ((List.finRange 24).filter fun i =>
      (s.table.entry i).any fun e => decide (e.holds ≠ Holds.empty)).length →
    ∃ table : NetTable,
      exec .clearTable s = .next (raise (.netCleared freed)
        (placeReply 0x94 .ok (.cleared freed kept) { lineIdle s with table := table }))
      ∧ table.agedDue = s.table.agedDue
      ∧ ∀ i, table.entry i =
        (s.table.entry i).filter fun e => decide (e.holds ≠ Holds.empty)

/-- 06 R137, R138, 01 R4: PORT_CONTROL on a port the campaign does not use. DISABLE takes effect after its
reply: the orders dropped, call and attachment gone, SEEN entries LOST, the DISABLED report last; a port
already DISABLED stays. ENABLE brings a fitted port that is DISABLED or DEAD to OFF and leaves another as it
is; an unfitted port and a number above 3 are answered BAD_ARGUMENT. -/
def Obligations.PortControl : Prop :=
  ∀ (s : State) (p : Port) (n : Byte), LinkReady s → n.toNat = portNumber p →
    ((s.port p).power = .disabled → exec (.portControlDisable n) s = .next
      (placeReply 0x92 .ok (.portPower .disabled) (lineIdle s)))
    ∧ ((s.port p).power ≠ .disabled → PortUnused s p →
      ∃ u : State,
        exec (.portControlDisable n) s = .next
          (raise (.port .disabled p .disabled (s.port p).attention (s.port p).restartCount) u)
        ∧ u.port p = { PortContext.afterReset .disabled with
          attention := (s.port p).attention, restartCount := (s.port p).restartCount, rx := (s.port p).rx }
        ∧ (∀ q, q ≠ p → u.port q = s.port q)
        ∧ u.cfg = { s.cfg with enables := s.cfg.enables.put p false }
        ∧ (∀ slot, u.table.entry slot = (s.table.entry slot).map fun e =>
            if e.port = p ∧ e.state = .seen then { e with state := .lost } else e)
        ∧ u.campaign = s.campaign ∧ u.log = s.log ∧ u.supply = s.supply ∧ u.store = s.store
        ∧ (placeReply 0x92 .ok (.portPower .disabled) (lineIdle s)).link.outbound <+: u.link.outbound)
    ∧ (s.board.fitted.get p = true →
      ((s.port p).power = .disabled ∨ (s.port p).power = .dead →
        exec (.portControlEnable n) s = .next
          (raise (.port .enabled p .off (s.port p).attention 0)
            (placeReply 0x92 .ok (.portPower .off) { lineIdle s with
              cfg := { s.cfg with enables := s.cfg.enables.put p true }
              ports := s.ports.put p { s.port p with
                power := .off, restartCount := 0, restartTimer := none } })))
      ∧ ((s.port p).power ≠ .disabled → (s.port p).power ≠ .dead →
        exec (.portControlEnable n) s = .next
          (placeReply 0x92 .ok (.portPower (s.port p).power) (lineIdle s))))
    ∧ (s.board.fitted.get p = false → exec (.portControlEnable n) s = .next
      (placeReply 0x92 .badArgument .none (lineIdle s)))
    ∧ ∀ m : Byte, 3 < m.toNat →
      exec (.portControlDisable m) s = .next (placeReply 0x92 .badArgument .none (lineIdle s))
      ∧ exec (.portControlEnable m) s = .next (placeReply 0x92 .badArgument .none (lineIdle s))

/-- 11 R196, R197, 10 R193, R194: COMMIT_CONFIG takes a snapshot, clears the mark and answers nothing yet; the
store's final event sets the mark and answers the CRC where the copy reads back right, and answers
STORE_FAILED, the mark clear, where it does not. RESET without force is BUSY in DIAL, RING and TALK, and is
otherwise accepted and pending until its reply has left. The read-back's finding is the command's operand (log
32), a force byte that is not 0 is set (log 22), and the CRC's input is free (log 9). -/
def Obligations.CommitAndReset : Prop :=
  (∀ s : State, LinkReady s → exec .commitConfig s = .next { lineIdle s with
    store := { s.store with mark := false, writing := some s.cfg } })
  ∧ (∀ (s : State) (image : WorkingConfig), s.store.writing = some image → s.link.outbound.length < 8 →
    s.link.inbound = [] →
    exec (.commitDone true) s = .next (placeReply 0x95 .ok (.imageCrc (imageCrc image))
      { s with store := ⟨true, image, imageCrc image, none⟩ })
    ∧ exec (.commitDone false) s = .next (placeReply 0x95 .storeFailed .none
      { s with store := ⟨false, image, imageCrc image, none⟩ }))
  ∧ (∀ (s : State) (verified : Bool), s.store.writing = none → exec (.commitDone verified) s = .next s)
  ∧ ∀ (s : State) (force : Byte), LinkReady s →
    (force = 0 → s.campaign.state = .dial ∨ s.campaign.state = .ring ∨ s.campaign.state = .talk →
      exec (.reset force) s = .next (placeReply 0x96 .busy .none (lineIdle s)))
    ∧ (force ≠ 0 ∨ (s.campaign.state ≠ .dial ∧ s.campaign.state ≠ .ring ∧ s.campaign.state ≠ .talk) →
      exec (.reset force) s = .next (placeReply 0x96 .ok .none
        { s with link := { s.link with rx := .hunting, resetPending := true } }))

/-- 03 R73, R64, R81, R82, 04 R87, 06 R118, R119: END_CALL by the campaign state: NOT_ACTIVE in IDLE; CANCEL
pending in PREPARE and in a release of the ring timer; HANGUP in DIAL and RING, and in TALK with TALK left at
once and a standby cleared; CANCELLED in PAUSE and RESURVEY; COMPLETED in CALLBACK; nothing in any other
release. The HANGUP goes out at once where nothing is in flight; behind the try's DIAL or another order in
flight it joins the head of the queue, and the call state stays. That call entry and call port are absent and the
CALL hold withdrawn already in RELEASE, before the try has ended, is the model's choice (log 15). The fields of the
last STATE report follow log 20, the count of notices log 34, the order of the reports log 26. -/
def Obligations.EndCall : Prop :=
  (∀ s : State, LinkReady s → s.campaign.state = .idle →
    exec .endCall s = .next (placeReply 0x83 .notActive .none (lineIdle s)))
  ∧ (∀ s : State, LinkReady s →
    (s.campaign.state = .prepare ∨ (s.campaign.state = .release
      ∧ ∃ x, s.campaign.attempt = some x ∧ x.release = some .ringTimeout)) →
    exec .endCall s = .next { placeReply 0x83 .ok .none (lineIdle s) with
      campaign := { s.campaign with cancelPending := true } })
  ∧ (∀ (s : State) (x : CurrentTry) (inTalk : Bool), LinkReady s → s.campaign.state = .release →
    s.campaign.attempt = some x → x.release = some (.endCall inTalk) →
    exec .endCall s = .next (placeReply 0x83 .ok .none (lineIdle s)))
  ∧ (∀ (s : State) (x : CurrentTry) (p : Port) (after : PortContext), LinkReady s →
    (s.campaign.state = .dial ∨ s.campaign.state = .ring) →
    s.campaign.attempt = some x → x.port = some p → s.campaign.route = none → HungUp s p x.id after →
    exec .endCall s = .next
      (raise (.state .release s.campaign.phase s.campaign.origin x.number none none)
        { placeReply 0x83 .ok .none (lineIdle s) with
          campaign := { s.campaign with
            state := .release
            ringTimer := none
            attempt := some { x with stage := .releasing, release := some (.endCall false) } }
          ports := s.ports.put p after }))
  ∧ (∀ (s : State) (x : CurrentTry) (p : Port) (slot : TableSlot) (after : PortContext) (u : State),
    LinkReady s → s.campaign.state = .talk → s.campaign.attempt = some x → x.port = some p →
    s.campaign.callEntry = some slot → s.campaign.callPort = some p → HungUp s p x.id after →
    u = { placeReply 0x83 .ok .none (lineIdle s) with
      table := s.table.onEntry slot fun e => { e with holds := { e.holds with call := false } }
      campaign := { s.campaign with
        state := .release
        ringTimer := none
        standby := none
        callEntry := none
        callPort := none
        route := none
        attempt := some { x with stage := .releasing, release := some (.endCall true) } }
      ports := s.ports.put p after } →
    (s.campaign.standby = none → exec .endCall s = .next
      (raise (.state .release s.campaign.phase s.campaign.origin x.number none none) u))
    ∧ ∀ b, s.campaign.standby = some b → exec .endCall s = .next
      (raise (.state .release s.campaign.phase s.campaign.origin x.number none none)
        (raise (.standby none b.entry b.port (some .callEnded)) { u with
          table := u.table.onEntry b.entry fun e => { e with holds := { e.holds with standby := false } } })))
  ∧ ∀ (s : State) (outcome : CampaignOutcome) (summary : Summary), LinkReady s → s.campaign.standby = none →
    (((s.campaign.state = .pause ∨ s.campaign.state = .resurvey) ∧ outcome = .cancelled)
      ∨ (s.campaign.state = .callback ∧ outcome = .completed)) →
    summary = { origin := s.campaign.origin, outcome := outcome, total := s.log.counter,
                recoveries := s.campaign.recoveries, planFault := s.campaign.planFault,
                seconds := s.campaign.seconds, presses := s.campaign.presses,
                truncated := s.log.truncated } →
    exec .endCall s = .next
      (raise (.state .idle s.campaign.phase s.campaign.origin none none (some outcome))
        (raise (.summary summary)
          { placeReply 0x83 .ok .none (lineIdle s) with
            campaign := Campaign.inIdle
            log := { s.log with summary := some summary }
            table := { s.table with
              slots := s.table.slots.map fun o => o.map fun e => { e with holds := Holds.empty } }
            supply := { s.supply with idleNotices := s.supply.idleNotices + 1 } }))

/-! ## Notices -/

/-- 06 R125, R126, 07 R143: notices that are discarded: any notice on a port that is OFF, FAULT, DEAD or
DISABLED; an answer to an order on a port with nothing in flight; call notices on a port without a call; a
SCAN_RESULT of more than 8 networks. Nothing but the line's receiver moves. That a notice row leaves the
receiver hunting follows log 5. -/
def Obligations.NoticesDiscarded : Prop :=
  (∀ (c : Instr) (p : Port) (s : State), c.isNoticeOn p →
    ((s.port p).power = .off ∨ (s.port p).power = .fault ∨ (s.port p).power = .dead
      ∨ (s.port p).power = .disabled) →
    exec c s = .next (moduleIdle p s))
  ∧ (∀ (c : Instr) (p : Port) (s : State), (s.port p).inFlight = none →
    (c = .wakeDone p ∨ c = .sleepDone p ∨ c = .detachDone p ∨ (∃ networks, c = .scanResult p networks)
      ∨ (∃ result cause, c = .attachResult p result cause) ∨ (∃ result, c = .dataResult p result)
      ∨ ((s.port p).call = .none ∧ (c = .callProgressAlerting p ∨ c = .callProgressConnected p
        ∨ (∃ cause moduleCause, c = .callEnded p cause moduleCause)
        ∨ ∃ level quality, c = .servingLevel p level quality))
      ∨ ((s.port p).call ≠ .none ∧ ∃ digits, c = .incoming p digits)) →
    exec c s = .next (moduleIdle p s))
  ∧ ∀ (p : Port) (networks : List NetworkGroup) (s : State), 8 < networks.length →
    exec (.scanResult p networks) s = .next (moduleIdle p s)

/-- 06 R119, R120, R121, R131, 03 R70: WAKE_DONE makes a port ON with restart count 0, marks and reports a
restart, and sends the order at the head of the queue; DETACH_DONE leaves no attachment; DATA_RESULT settles
the pending data outcome of its try. That a notice row leaves the receiver hunting follows log 5. -/
def Obligations.OrdersComplete : Prop :=
  (∀ (s : State) (p : Port) (reason : WakeReason) (who : Submitter) (n : Nat),
    ((s.port p).power = .waking ∨ (s.port p).power = .on) →
    (s.port p).inFlight = some ⟨⟨.wake reason, who⟩, n⟩ →
    ((s.port p).queue = [] → reason ≠ .restart →
      exec (.wakeDone p) s = .next { s with ports := s.ports.put p { s.port p with
        power := .on, restartCount := 0, inFlight := none, rx := .hunting } })
    ∧ (∀ sender rest, (s.port p).queue = ⟨.scan, sender⟩ :: rest → reason ≠ .restart →
      exec (.wakeDone p) s = .next { s with ports := s.ports.put p { s.port p with
        power := .on, restartCount := 0, rx := .hunting,
        inFlight := some ⟨⟨.scan, sender⟩, 60⟩,
        queue := rest } })
    ∧ ((s.port p).queue = [] → reason = .restart →
      exec (.wakeDone p) s = .next
        (raise (.port .restarted p .on { (s.port p).attention with restarted := true } 0)
          { s with ports := s.ports.put p { s.port p with
            power := .on, restartCount := 0, inFlight := none, rx := .hunting,
            attention := { (s.port p).attention with restarted := true } } })))
  ∧ (∀ (s : State) (p : Port) (who : Submitter) (n : Nat), (s.port p).power = .on →
    (s.port p).inFlight = some ⟨⟨.detach, who⟩, n⟩ → (s.port p).queue = [] →
    s.campaign.callbackPort ≠ some p →
    exec (.detachDone p) s = .next { s with ports := s.ports.put p { s.port p with
      attachment := .none, inFlight := none, rx := .hunting } })
  ∧ ∀ (s : State) (p : Port) (m : DataMessage) (n : Nat) (x : CurrentTry) (result : Byte),
    (s.port p).power = .on → (s.port p).inFlight = some ⟨⟨.sendData m, .campaign (.call x.id)⟩, n⟩ →
    (s.port p).queue = [] → s.campaign.attempt = some x → x.data = some .pending →
    exec (.dataResult p result) s = .next { s with
      campaign := { s.campaign with
        attempt := some { x with data := some (if result = 1 then .sent else .failed) } }
      ports := s.ports.put p { s.port p with inFlight := none, rx := .hunting } }

/-- 01 R3 to R5, R7 to R10, R16, R18, R24, 04 R101 to R103, 06 R120, 07 R144, 08 R157: a SCAN_RESULT that answers
a SCAN. Where every listed network is known on the port, each SEEN entry of the port is sampled, once for each
listing, or becomes LOST, and every other entry stays. Where one new network is listed, once or more, its entry
goes into the lowest FREE slot, else into that of the oldest LOST entry no one holds, else of the lowest-scored
SEEN one below the floor that no one holds; where there is none, TABLE_FULL is reported. A SCAN of the Survey
Timer makes its record COMPLETED where its tag is the present count and the record SUBMITTED, and leaves it
alone otherwise. A resurvey's SCAN takes its port out of the awaited set, and the last one goes on with the
walk after a RESURVEY step. That a notice row leaves the receiver hunting follows log 5, the submitters' ids
log 19, the count of resurveys completed log 20. -/
def Obligations.ScanApplied : Prop :=
  ∀ (s : State) (p : Port) (n : Nat) (who : Submitter) (groups : List NetworkGroup) (networks : List Sample)
      (after : TableSlot → Option Entry),
    (s.port p).power = .on → (s.port p).inFlight = some ⟨⟨.scan, who⟩, n⟩ → (s.port p).queue = [] →
    s.campaign.standby = none → groups.length ≤ 8 → networks = groups.filterMap sampleOfGroup →
    s.table.distinct →
    (∀ slot, after slot = (s.table.entry slot).map fun e =>
      if e.port = p then
        match networks.filter fun m => m.net == e.net with
        | [] => { e with state := .lost }
        | samples => samples.foldl (fun x m => x.sampled s.cfg.preferences m) e
      else e) →
    (∀ survey : Survey,
      (((who = .start ∨ who = .host ∨ ∃ id, who = .campaign (.resurvey id) ∧ s.campaign.resurvey = none)
          ∧ survey = s.survey)
        ∨ ∃ tag, who = .survey tag
          ∧ ((tag = s.survey.periodEnds ∧ s.survey.records.get p = .submitted
              ∧ survey = { s.survey with records := s.survey.records.put p .completed })
            ∨ ((tag ≠ s.survey.periodEnds ∨ s.survey.records.get p ≠ .submitted) ∧ survey = s.survey))) →
      ((∀ m ∈ networks, (s.table.find p m.net).isSome) →
        ∃ t, exec (.scanResult p groups) s = .next t
          ∧ t.ports = s.ports.put p { s.port p with inFlight := none, rx := .hunting }
          ∧ t.campaign = s.campaign ∧ t.log = s.log ∧ t.survey = survey ∧ t.supply = s.supply
          ∧ t.outside = s.outside ∧ ∀ slot, t.table.entry slot = after slot)
      ∧ ∀ (m : Sample) (again : List Sample), networks = m :: again → (∀ x ∈ again, x.net = m.net) →
        s.table.find p m.net = none →
        (∀ slot : TableSlot,
          ((s.table.entry slot = none ∧ ∀ i, i < slot → s.table.entry i ≠ none)
            ∨ ((∀ i, s.table.entry i ≠ none) ∧ ∃ old, s.table.entry slot = some old
              ∧ old.holds = Holds.empty
              ∧ ((old.state = .lost
                  ∧ ∀ i x, s.table.entry i = some x → x.state = .lost → x.holds = Holds.empty →
                    x.age < old.age ∨ (x.age = old.age ∧ slot ≤ i))
                ∨ (old.state = .seen ∧ old.score < s.cfg.tuning.floor
                  ∧ (∀ i x, s.table.entry i = some x → x.holds = Holds.empty → x.state = .seen)
                  ∧ ∀ i x, s.table.entry i = some x → x.holds = Holds.empty →
                    x.score < s.cfg.tuning.floor →
                    old.score < x.score ∨ (x.score = old.score
                      ∧ (x.age < old.age ∨ (x.age = old.age ∧ slot ≤ i))))))) →
          ∃ t e, exec (.scanResult p groups) s = .next t
            ∧ t.ports = s.ports.put p { s.port p with inFlight := none, rx := .hunting }
            ∧ t.campaign = s.campaign ∧ t.survey = survey ∧ t.outside = s.outside
            ∧ e.state = .seen ∧ e.port = p ∧ e.net = m.net ∧ e.level = 4 * m.level
            ∧ e.quality = (match m.quality with | some q => 4 * q | none => 0)
            ∧ e.samples = 1 ∧ e.age = 0 ∧ e.failures = 0 ∧ e.holds = Holds.empty ∧ e.lastCause = none
            ∧ e.preference = lookupPreference s.cfg.preferences m.net.operator ∧ e.score = scoreOf e
            ∧ t.table.entry slot = some (again.foldl (fun x y => x.sampled s.cfg.preferences y) e)
            ∧ ∀ i, i ≠ slot → t.table.entry i = (s.table.entry i).map fun x =>
              if x.port = p then { x with state := .lost } else x)
        ∧ ((∀ i, ∃ x, s.table.entry i = some x
              ∧ (x.holds ≠ Holds.empty ∨ (x.state = .seen ∧ s.cfg.tuning.floor ≤ x.score))
              ∧ (x.port = p → x.state = .lost)) →
          exec (.scanResult p groups) s = .next (raise (.netTableFull p m.net) { s with
            survey := survey
            ports := s.ports.put p { s.port p with inFlight := none, rx := .hunting } })))
    ∧ ∀ (r : Resurvey) (campaign : Campaign), s.campaign.resurvey = some r →
      who = .campaign (.resurvey r.id) → r.awaited.get p = true → s.campaign.state = .resurvey →
      (∀ m ∈ networks, (s.table.find p m.net).isSome) →
      (((∃ q, q ≠ p ∧ r.awaited.get q = true)
          ∧ campaign = { s.campaign with
              resurvey := some { r with awaited := r.awaited.put p false } })
        ∨ ((∀ q, q ≠ p → r.awaited.get q = false) ∧ r.use = .step
          ∧ ∃ slot time last, s.campaign.cursor = some slot
            ∧ s.cfg.steps.get slot = .resurvey true ∧ s.cfg.steps.get (slot + 1) = .wait time last
            ∧ campaign = { s.campaign with
                state := .pause
                resurvey := none
                resurveysDone := s.campaign.resurveysDone + 1
                cursor := some (slot + 1)
                controlCount := 0
                waitTimer := some time })) →
      ∃ t, exec (.scanResult p groups) s = .next t
        ∧ t.ports = s.ports.put p { s.port p with inFlight := none, rx := .hunting }
        ∧ t.campaign = campaign ∧ t.log = s.log ∧ t.survey = s.survey ∧ t.supply = s.supply
        ∧ t.outside = s.outside ∧ ∀ slot, t.table.entry slot = after slot

/-- 06 R121, 03 R61, 04 R86, R87: ATTACH_RESULT. The PREPARING try it serves dials over the network the port is
now attached to; the standby it serves becomes READY, or is cleared where the result is not OK. Which try or
standby an order served is told by the model's own ids (logs 18, 19). -/
def Obligations.AttachAnswered : Prop :=
  (∀ (s : State) (p : Port) (x : CurrentTry) (slot : TableSlot) (net : NetworkId) (n : Nat) (cause : Byte),
    s.campaign.state = .prepare → s.campaign.attempt = some x → x.stage = .preparing → x.port = some p →
    s.campaign.cancelPending = false → s.campaign.standby = none → s.campaign.route = none →
    (s.port p).power = .on → (s.port p).call = .none → (s.port p).queue = [] → s.supply.halt = false →
    (s.port p).inFlight = some ⟨⟨.attach slot net, .campaign (.attempt x.id)⟩, n⟩ →
    exec (.attachResult p 1 cause) s = .next
      (raise (.state .dial s.campaign.phase s.campaign.origin x.number none none)
        { s with
          campaign := { s.campaign with
            state := .dial
            attempt := some { x with stage := .dialing } }
          ports := s.ports.put p { s.port p with
            attachment := .attached net
            call := .dialing
            silenceTimer := none
            rx := .hunting
            inFlight := some ⟨⟨.dial x.digits, .campaign (.attempt x.id)⟩, 40⟩ } }))
  ∧ ∀ (s : State) (p : Port) (b : Standby) (net : NetworkId) (n : Nat) (result cause : Byte),
    s.campaign.standby = some b → b.port = p → s.campaign.callbackPort ≠ some p →
    (s.port p).power = .on → (s.port p).queue = [] →
    (s.port p).inFlight = some ⟨⟨.attach b.entry net, .campaign (.standby b.id)⟩, n⟩ →
    (result = 1 → exec (.attachResult p result cause) s = .next
      (raise (.standby (some .ready) b.entry p none)
        { s with
          campaign := { s.campaign with standby := some { b with status := .ready } }
          ports := s.ports.put p { s.port p with
            attachment := .attached net, inFlight := none, rx := .hunting } }))
    ∧ (result ≠ 1 → exec (.attachResult p result cause) s = .next
      (raise (.standby none b.entry p (some .attachFailed))
        { s with
          campaign := { s.campaign with standby := none }
          table := s.table.onEntry b.entry fun e => { e with holds := { e.holds with standby := false } }
          ports := s.ports.put p { s.port p with
            attachment := .none, inFlight := none, rx := .hunting } }))

/-- 03 R62, R68, R69, R78, R81, 04 R92, 06 R122, 01 R13: CALL_PROGRESS of the current try. ALERTING completes its
DIAL: RINGING, with the ring timer. CONNECTED, out of RINGING or straight out of DIALING: the talk count from 0,
the entry's failure count 0 and its CALL hold, TALK with the audio routed, the silence timer at 35, the data
message sent where the destination asks for one, and in a recovery the record gone and the phase back. CONNECTED
of an answered call: the talk count and the route. Which try an order served is told by the model's own ids (log
19). -/
def Obligations.CallProgresses : Prop :=
  ∀ (s : State) (p : Port) (x : CurrentTry), s.campaign.attempt = some x → x.port = some p →
    (s.port p).power = .on → (s.port p).queue = [] → s.supply.halt = false →
    (s.campaign.state = .dial → x.stage = .dialing → (s.port p).call = .dialing → s.campaign.route = none →
      (∀ digits n, (s.port p).inFlight = some ⟨⟨.dial digits, .campaign (.attempt x.id)⟩, n⟩ →
        exec (.callProgressAlerting p) s = .next
          (raise (.state .ring s.campaign.phase s.campaign.origin x.number none none)
            { s with
              campaign := { s.campaign with
                state := .ring
                ringTimer := some s.cfg.tuning.ringTimeout
                attempt := some { x with stage := .ringing } }
              ports := s.ports.put p { s.port p with
                call := .alerting, silenceTimer := none, inFlight := none, rx := .hunting } })))
    ∧ (∀ (slot : TableSlot) (phase : Option Phase),
      ((s.campaign.state = .ring ∧ x.stage = .ringing ∧ (s.port p).call = .alerting
          ∧ (s.port p).inFlight = none)
        ∨ (s.campaign.state = .dial ∧ x.stage = .dialing ∧ (s.port p).call = .dialing
          ∧ ∃ digits n, (s.port p).inFlight = some ⟨⟨.dial digits, .campaign (.attempt x.id)⟩, n⟩)) →
      x.entry = some slot → s.cfg.tuning.standbyEnable = false →
      ((s.campaign.recovery = none ∧ phase = s.campaign.phase)
        ∨ ∃ r, s.campaign.recovery = some r
          ∧ phase = some (if r.toLastResort then .lastResort else .plan)) →
      exec (.callProgressConnected p) s = .next
        (raise (.state .talk phase s.campaign.origin x.number (some p) none)
          { s with
            table := s.table.onEntry slot fun e =>
              { rescore s.cfg.preferences { e with failures := 0 } with
                holds := { e.holds with call := true } }
            campaign := { s.campaign with
              state := .talk
              phase := phase
              recovery := none
              ringTimer := none
              callEntry := some slot
              callPort := some p
              route := some p
              attempt := some { x with
                stage := .connected
                talk := some 0
                data := if x.dataFlag then some .pending else x.data } }
            ports := s.ports.put p { s.port p with
              call := .connected
              silenceTimer := some 35
              rx := .hunting
              inFlight := if x.dataFlag then
                some
                  ⟨⟨.sendData
                    { identity := s.cfg.box.identity, location := s.cfg.box.location,
                      battery := s.supply.last.getD 0, number := x.number.getD 0,
                      recoveries := s.campaign.recoveries }, .campaign (.call x.id)⟩, 20⟩
              else none } }))
    ∧ (s.campaign.state = .talk → x.stage = .answering → (s.port p).call = .answering →
      s.campaign.route = none →
      ((s.port p).inFlight = none
        ∨ ∃ n, (s.port p).inFlight = some ⟨⟨.answer, .campaign (.call x.id)⟩, n⟩) →
      exec (.callProgressConnected p) s = .next
        (raise (.state .talk s.campaign.phase s.campaign.origin x.number (some p) none)
          { s with
            campaign := { s.campaign with
              route := some p
              attempt := some { x with stage := .connected, talk := some 0 } }
            ports := s.ports.put p { s.port p with
              call := .connected, silenceTimer := some 35, inFlight := none, rx := .hunting } }))

/-- 03 R61, R64, R66, R71, R79, 05 R105 to R108, 06 R121, R126, 02 R33, R35, 01 R13: how a try of the campaign
ends. The far end clears a connected call: the record CLEARED is written with its talk seconds, the TRY and CALL
holds withdrawn, the walk abandoned, and the callback window opens with the CALLBACK hold on the attached
network, also where the notice completes a SEND_DATA in flight, be it one that another call left there (log 16). A
try of a DIAL step that ends BUSY, NO_ANSWER, REJECTED or ATTACH_FAILED is recorded, the last two
counted against its network; its entry joins the exclusion list, the step has one try fewer, and the next
network the table selects is dialled at once where its port is free and attached; with no try left the step has
failed and the walk goes on at its successor. The order of the reports follows log 26, the network in the record
log 15, the ids of orders and tries log 19. -/
def Obligations.FarEndClears : Prop :=
  (∀ (s : State) (p : Port) (x : CurrentTry) (e : Entry) (slot : TableSlot) (number : Nat)
      (moduleCause : Byte) (record : AttemptRecord) (log : AttemptLog),
    s.campaign.state = .talk → s.campaign.attempt = some x → x.stage = .connected → x.port = some p →
    (x.origin = .plan ∨ x.origin = .recovery ∨ x.origin = .lastResort) → x.entry = some slot →
    x.number = some number → s.campaign.callEntry = some slot → s.campaign.standby = none →
    s.campaign.cancelPending = false → s.cfg.tuning.callbackWindow ≠ 0 → s.supply.mode ≠ .cutoff →
    (s.port p).power = .on → (s.port p).call = .connected →
    ((s.port p).inFlight = none ∨ ∃ m who n, (s.port p).inFlight = some ⟨⟨.sendData m, who⟩, n⟩) →
    (s.port p).queue = [] → (s.port p).attachment = .attached e.net → s.table.entry slot = some e →
    s.table.find p e.net = some slot →
    record = { number := number, origin := x.origin, slot := x.slot, destination := x.destination,
               port := some p, net := x.net, score := x.score, outcome := .cleared,
               cause := some moduleCause, talk := some (x.talk.getD 0),
               data := if x.data = some .pending then some .failed else x.data } →
    (s.log.records.length < 16 → log = { s.log with records := s.log.records ++ [record] }) →
    (16 ≤ s.log.records.length → log = { s.log with
      records := s.log.records.drop 1 ++ [record], truncated := true }) →
    exec (.callEnded p 1 moduleCause) s = .next
      (raise (.state .callback s.campaign.phase s.campaign.origin none none none)
        (raise (.attempt record log.records.length log.truncated)
          { s with
            log := log
            table := s.table.onEntry slot fun e => { e with
              holds := { e.holds with attempt := false, call := false, callback := true } }
            campaign := { s.campaign with
              state := .callback
              stack := []
              dialStep := none
              cursor := none
              lastResort := none
              attempt := none
              callEntry := none
              callPort := none
              route := none
              ringTimer := none
              windowTimer := some s.cfg.tuning.callbackWindow
              callbackPort := some p }
            ports := s.ports.put p { s.port p with
              call := .none, silenceTimer := none, inFlight := none, rx := .hunting } })))
  ∧ ∀ (s : State) (c : Instr) (p : Port) (x : CurrentTry) (d : DialStep) (slot : TableSlot) (number : Nat)
      (outcome : TryOutcome) (cause : Byte) (counted : Bool) (after : PortContext) (record : AttemptRecord)
      (log : AttemptLog) (table : NetTable),
    s.campaign.attempt = some x → x.port = some p → x.origin = .plan → x.entry = some slot →
    x.number = some number → s.campaign.dialStep = some d → s.campaign.cancelPending = false →
    s.campaign.standby = none → s.campaign.route = none → s.campaign.callbackPort ≠ some p →
    (s.port p).power = .on → (s.port p).queue = [] →
    ((∃ ended, c = .callEnded p ended cause
        ∧ ((s.campaign.state = .dial ∧ x.stage = .dialing ∧ (s.port p).call = .dialing
            ∧ ∃ digits n, (s.port p).inFlight = some ⟨⟨.dial digits, .campaign (.attempt x.id)⟩, n⟩)
          ∨ (s.campaign.state = .ring ∧ x.stage = .ringing ∧ (s.port p).call = .alerting
            ∧ (s.port p).inFlight = none))
        ∧ ((ended = 4 ∧ outcome = .busy ∧ counted = false)
          ∨ ((ended = 1 ∨ ended = 5) ∧ outcome = .noAnswer ∧ counted = false)
          ∨ (ended ≠ 1 ∧ ended ≠ 4 ∧ ended ≠ 5 ∧ outcome = .rejected ∧ counted = true))
        ∧ after = { s.port p with
            call := .none, silenceTimer := none, inFlight := none, rx := .hunting })
      ∨ (∃ result net n, c = .attachResult p result cause ∧ result ≠ 1 ∧ s.campaign.state = .prepare
        ∧ x.stage = .preparing
        ∧ (s.port p).inFlight = some ⟨⟨.attach slot net, .campaign (.attempt x.id)⟩, n⟩
        ∧ outcome = .attachFailed ∧ counted = true
        ∧ after = { s.port p with attachment := .none, inFlight := none, rx := .hunting })) →
    table = s.table.onEntry slot (fun y =>
      if counted then
        { rescore s.cfg.preferences
            { y with failures := min 7 (y.failures + 1), lastCause := some cause } with
          holds := { y.holds with attempt := false } }
      else { y with holds := { y.holds with attempt := false } }) →
    record = { number := number, origin := .plan, slot := x.slot, destination := x.destination,
               port := some p, net := x.net, score := x.score, outcome := outcome, cause := some cause,
               talk := none, data := if x.data = some .pending then some .failed else x.data } →
    (s.log.records.length < 16 → log = { s.log with records := s.log.records ++ [record] }) →
    (16 ≤ s.log.records.length → log = { s.log with
      records := s.log.records.drop 1 ++ [record], truncated := true }) →
    (∀ (tried : DialStep) (next : TableSlot) (e : Entry),
      tried = { d with excluded := d.excluded ++ [slot], triesLeft := d.triesLeft - 1 } →
      2 ≤ d.triesLeft → (s.cfg.directory.get d.destination).digits ≠ [] →
      firstEligible
        { s with table := table, campaign := { s.campaign with dialStep := some tried } } d.filter
        = some next →
      table.entry next = some e → PortFree s e.port → e.port ≠ p →
      (s.port e.port).attachment = .attached e.net → (s.port e.port).call = .none →
      ∃ t, exec c s = .next t
        ∧ t.campaign = { s.campaign with
            state := .dial
            ringTimer := none
            dialStep := some tried
            attempt := some
              { id := s.serial, origin := .plan, number := some (min 65535 (s.log.counter + 1)),
                slot := some d.slot, destination := some d.destination,
                digits := (s.cfg.directory.get d.destination).digits,
                dataFlag := (s.cfg.directory.get d.destination).dataFlag, entry := some next,
                net := some e.net, port := some e.port, score := some e.score, stage := .dialing,
                release := none, talk := none, data := none, cause := none } }
        ∧ t.ports = (s.ports.put p after).put e.port { s.port e.port with
            call := .dialing
            silenceTimer := none
            inFlight := some
              ⟨⟨.dial (s.cfg.directory.get d.destination).digits, .campaign (.attempt s.serial)⟩, 40⟩ }
        ∧ t.table = table.onEntry next (fun y => { y with holds := { y.holds with attempt := true } })
        ∧ t.log = { log with counter := min 65535 (s.log.counter + 1) }
        ∧ t.supply = s.supply ∧ t.survey = s.survey ∧ t.outside = s.outside)
    ∧ ∀ (time : Nat) (last : Bool), d.triesLeft = 1 → stepMore (s.cfg.steps.get d.slot) = some true →
      s.cfg.steps.get (d.slot + 1) = .wait time last →
      ∃ t, exec c s = .next t
        ∧ t.campaign = { s.campaign with
            state := .pause
            ringTimer := none
            dialStep := none
            attempt := none
            cursor := some (d.slot + 1)
            controlCount := 0
            waitTimer := some time }
        ∧ t.ports = s.ports.put p after ∧ t.table = table ∧ t.log = log
        ∧ t.supply = s.supply ∧ t.survey = s.survey ∧ t.outside = s.outside

/-- 03 R75 to R77, 06 R127, 04 R87: INCOMING on an idle ON port. In IDLE without answering, and in a campaign from
PREPARE to RELEASE, the call is refused; in IDLE with answering, and in an open callback window, it is answered:
a try of its own with its number, the CALL hold, TALK. Digits that are not 20 dialling characters at most are taken as absent. The order of the reports
follows log 26, the try's id is the model's own (log 19), and that the callback port becomes absent with the answer is
its choice (log 43). -/
def Obligations.IncomingOffered : Prop :=
  ∀ (s : State) (p : Port) (digits given : Option (List Byte)) (e : Entry) (slot : TableSlot)
      (attention : Attention),
    PortFree s p → (s.port p).call = .none → (∀ b, s.campaign.standby = some b → b.port ≠ p) →
    s.campaign.route ≠ some p →
    ((given = digits ∧ ∀ d, digits = some d → d.length ≤ 20 ∧ d.all dialChar = true)
      ∨ (given = none ∧ ∃ d, digits = some d ∧ (20 < d.length ∨ d.all dialChar = false))) →
    attention = { (s.port p).attention with incoming := true } →
    ((s.campaign.state = .idle ∧ (s.cfg.tuning.answerInIdle = false ∨ s.supply.mode = .cutoff))
        ∨ (s.campaign.state ≠ .idle ∧ s.campaign.state ≠ .callback) →
      exec (.incoming p digits) s = .next
        (raise (.incoming p given false)
          (raise (.port (.attention (.incoming given.isSome)) p .on attention (s.port p).restartCount)
            { s with ports := s.ports.put p { s.port p with
              call := .clearing, silenceTimer := none, rx := .hunting, attention := attention,
              inFlight := some ⟨⟨.refuse, .campaign .offered⟩, 10⟩ } })))
    ∧ ((s.port p).attachment = .attached e.net → s.table.find p e.net = some slot →
      s.table.entry slot = some e → s.cfg.tuning.standbyEnable = false →
      (s.campaign = Campaign.inIdle → s.cfg.tuning.answerInIdle = true → s.supply.mode ≠ .cutoff →
        exec (.incoming p digits) s = .next
          (raise (.state .talk none (some .incoming) (some 1) none none)
            (raise (.started .incoming)
              (raise (.incoming p given true)
                (raise (.port (.attention (.incoming given.isSome)) p .on attention (s.port p).restartCount)
                  { s with
                    serial := s.serial + 1
                    log := { AttemptLog.empty with counter := 1 }
                    table := s.table.onEntry slot fun x =>
                      { x with holds := { x.holds with call := true } }
                    campaign := { Campaign.inIdle with
                      state := .talk
                      origin := some .incoming
                      callEntry := some slot
                      callPort := some p
                      attempt := some
                        { id := s.serial, origin := .incoming, number := some 1, slot := none,
                          destination := none, digits := [], dataFlag := false, entry := some slot,
                          net := some e.net, port := some p, score := some e.score, stage := .answering,
                          release := none, talk := none, data := none, cause := none } }
                    ports := s.ports.put p { s.port p with
                      call := .answering, silenceTimer := none, rx := .hunting, attention := attention,
                      inFlight := some ⟨⟨.answer, .campaign (.call s.serial)⟩, 10⟩ } })))))
      ∧ (s.campaign.state = .callback → s.campaign.standby = none → s.campaign.route = none →
        exec (.incoming p digits) s = .next
          (raise (.state .talk s.campaign.phase s.campaign.origin (some (min 65535 (s.log.counter + 1)))
              none none)
            (raise (.incoming p given true)
              (raise (.port (.attention (.incoming given.isSome)) p .on attention (s.port p).restartCount)
                { s with
                  serial := s.serial + 1
                  log := { s.log with counter := min 65535 (s.log.counter + 1) }
                  table := NetTable.onEntry slot
                    (fun x => { x with holds := { x.holds with call := true } })
                    { s.table with slots := s.table.slots.map fun o => o.map fun x =>
                      { x with holds := { x.holds with callback := false } } }
                  campaign := { s.campaign with
                    state := .talk
                    windowTimer := none
                    callbackPort := none
                    callEntry := some slot
                    callPort := some p
                    attempt := some
                      { id := s.serial, origin := .callback,
                        number := some (min 65535 (s.log.counter + 1)), slot := none,
                        destination := none, digits := [], dataFlag := false, entry := some slot,
                        net := some e.net, port := some p, score := some e.score, stage := .answering,
                        release := none, talk := none, data := none, cause := none } }
                  ports := s.ports.put p { s.port p with
                    call := .answering, silenceTimer := none, rx := .hunting, attention := attention,
                    inFlight := some ⟨⟨.answer, .campaign (.call s.serial)⟩, 10⟩ } })))))

/-- 01 R4, R11, 06 R124, R128: SERVING_LEVEL on a connected port puts the silence timer back to 35 and, on the
call port, samples the call entry. A MODULE_ALERT of kind REGISTRATION_LOST on an attached port makes its
network's SEEN entry LOST, leaves no attachment and sets the attention condition, NETWORK reported before PORT.
The order of the reports follows log 26. -/
def Obligations.ConnectedPortNotices : Prop :=
  (∀ (s : State) (p : Port) (level quality : Byte), (s.port p).call = .connected →
    ((s.port p).power = .on ∨ (s.port p).power = .waking ∨ (s.port p).power = .sleeping) →
    (s.campaign.callPort ≠ some p ∨ s.campaign.callEntry = none →
      exec (.servingLevel p level quality) s = .next { s with ports := s.ports.put p { s.port p with
        silenceTimer := some 35, rx := .hunting } })
    ∧ ∀ slot e, s.campaign.callPort = some p → s.campaign.callEntry = some slot →
      s.table.entry slot = some e → e.state = .seen →
      exec (.servingLevel p level quality) s = .next { s with
        table := s.table.putEntry slot (some
          (e.sampled s.cfg.preferences
            { net := e.net
              level := max (-140) (min (-44) level.toInt)
              quality := if quality.toInt = 127 then none
                else some (max (-20) (min 30 quality.toInt)) }))
        ports := s.ports.put p { s.port p with silenceTimer := some 35, rx := .hunting } })
  ∧ ∀ (s : State) (p : Port) (net : NetworkId) (slot : TableSlot) (e : Entry) (attention : Attention),
    ((s.port p).power = .on ∨ (s.port p).power = .waking ∨ (s.port p).power = .sleeping) →
    (s.port p).attachment = .attached net → s.table.find p net = some slot →
    s.table.entry slot = some e → e.state = .seen → s.campaign.standby = none →
    s.campaign.callbackPort ≠ some p → (∀ o ∈ (s.port p).queue, o.registers = false) →
    attention = { (s.port p).attention with registrationLost := true } →
    exec (.moduleAlertRegistrationLost p) s = .next
      (raise (.port (.attention .registrationLost) p (s.port p).power attention (s.port p).restartCount)
        (raise (.netLost slot)
          { s with
            table := s.table.putEntry slot (some { e with state := .lost })
            ports := s.ports.put p { s.port p with
              attachment := .none, attention := attention, rx := .hunting } }))

/-! ## Recovery -/

/-- 03 R64, R66, R72, R60, 04 R88 to R91, 01 R13, 05 R105 to R108: a connected call over one port is lost while
a standby stands READY over another: in the one event the try is recorded DROPPED and its network's failure
counted, and a recovery try dials the same destination over the standby, its hold become TRY. The try's id is
the model's own (log 19), the network in the record follows log 15. -/
def Obligations.DropRecoversOverStandby : Prop :=
  ∀ (s : State) (p : Port) (x : CurrentTry) (b : Standby) (d : DialStep) (destination : DestNumber)
      (slot : TableSlot) (lost e : Entry) (cause moduleCause : Byte),
    s.campaign.state = .talk → s.campaign.phase = some .plan → s.campaign.attempt = some x →
    x.stage = .connected → x.port = some p → x.origin = .plan → x.destination = some destination →
    x.entry = some slot → s.campaign.callEntry = some slot → s.campaign.dialStep = some d →
    s.campaign.cancelPending = false → s.campaign.recoveries < s.cfg.tuning.recoveryLimit →
    s.cfg.tuning.recoveryLimit ≤ 7 → (s.cfg.directory.get destination).digits ≠ [] →
    s.campaign.standby = some b → b.status = .ready → b.port ≠ p → b.entry ≠ slot →
    s.table.entry slot = some lost → s.table.entry b.entry = some e → e.port = b.port →
    e.preference ≠ .bar → PortFree s b.port → (s.port b.port).attachment = .attached e.net →
    (s.port b.port).call = .none → (s.port p).power = .on → (s.port p).call = .connected →
    (s.port p).inFlight = none → (s.port p).queue = [] → cause ≠ 1 →
    ∃ t, exec (.callEnded p cause moduleCause) s = .next t
      ∧ t.campaign = { s.campaign with
          state := .dial
          phase := some .recovery
          recoveries := s.campaign.recoveries + 1
          recovery := some
            { destination := destination, lostPort := some p, lostNet := x.net, toLastResort := false }
          standby := none
          callEntry := none
          callPort := none
          route := none
          ringTimer := none
          attempt := some
            { id := s.serial, origin := .recovery, number := some (min 65535 (s.log.counter + 1)),
              slot := some d.slot, destination := some destination,
              digits := (s.cfg.directory.get destination).digits,
              dataFlag := (s.cfg.directory.get destination).dataFlag, entry := some b.entry,
              net := some e.net, port := some b.port, score := some e.score, stage := .dialing,
              release := none, talk := none, data := none, cause := none } }
      ∧ t.port b.port = { s.port b.port with
          call := .dialing
          silenceTimer := none
          inFlight := some
            ⟨⟨.dial (s.cfg.directory.get destination).digits, .campaign (.attempt s.serial)⟩, 40⟩ }
      ∧ t.port p = { s.port p with call := .none, silenceTimer := none, rx := .hunting }
      ∧ (∀ q, q ≠ p → q ≠ b.port → t.port q = s.port q)
      ∧ t.table.entry slot = some
          { rescore s.cfg.preferences
              { lost with failures := min 7 (lost.failures + 1), lastCause := some moduleCause } with
            holds := { lost.holds with attempt := false, call := false } }
      ∧ t.table.entry b.entry = some
          { e with holds := { e.holds with standby := false, attempt := true } }
      ∧ (∀ i, i ≠ slot → i ≠ b.entry → t.table.entry i = s.table.entry i)
      ∧ t.log.counter = min 65535 (s.log.counter + 1)
      ∧ (∃ record, t.log.records.getLast? = some record ∧ record.outcome = .dropped
          ∧ record.number = x.number.getD 0 ∧ record.cause = some moduleCause
          ∧ record.talk = some (x.talk.getD 0) ∧ record.net = x.net)
      ∧ t.supply = s.supply ∧ t.survey = s.survey ∧ t.outside = s.outside

/-- 02 R29, R37, 04 R101, R103: a plan that leads back to a RESURVEY with no port to survey never ends its
event: the model stops there by name (log 11). -/
def Obligations.EndlessPlanStops : Prop :=
  ∀ s : State, s.armed = true → s.campaign = Campaign.inIdle → s.supply.mode ≠ .cutoff →
    s.supply.halt = false → (∀ p, (s.port p).power = .disabled) → s.cfg.tuning.entrySlot = 0 →
    s.cfg.steps.get 0 = .resurvey true → s.cfg.steps.get 1 = .goto 0 →
    exec .callPress s = .fault .eventNeverEnds

/-! ## The table's arithmetic and order, the check value -/

/-- 01 R16, R18: the score of an entry of any preference, level, quality, age and failure count: the terms
of stages 3 to 7, their sum brought to 0 to 780; an entry of score 0 still ranks, behind every higher. Every score computation looks the preference up afresh: the
first record of the entry's operator gives it, 1 where there is none; it is stored with the score. -/
def Obligations.ScoreComputed : Prop :=
  (∀ (e : Entry) (l q p a f : Int),
    l = 2 * (max (-480) (min (-240) e.level) + 480) →
    q = 3 * (max (-40) (min 80 e.quality) + 40) / 2 →
    ((e.preference = .bar ∧ p = 0) ∨ ∃ n : Fin 4, e.preference = .weight n ∧ p = 40 * n.val) →
    a = ((min (e.age / 16) 160 : Nat) : Int) → f = ((90 * e.failures : Nat) : Int) →
    0 ≤ l ∧ l ≤ 480 ∧ 0 ≤ q ∧ q ≤ 180 ∧ 0 ≤ p ∧ p ≤ 120 ∧ 0 ≤ a ∧ a ≤ 160 ∧ 0 ≤ f
    ∧ (e.failures ≤ 7 → f ≤ 630 ∧ -790 ≤ l + q + p - a - f)
    ∧ l + q + p - a - f ≤ 780
    ∧ (e.level ≤ -480 → l = 0) ∧ (-240 ≤ e.level → l = 480)
    ∧ (e.quality ≤ -40 → q = 0) ∧ (80 ≤ e.quality → q = 180) ∧ (2560 ≤ e.age → a = 160)
    ∧ ((scoreOf e : Nat) : Int) = max 0 (l + q + p - a - f))
  ∧ (∀ (t : NetTable) (slot : TableSlot) (e : Entry), t.entry slot = some e → e.state = .seen →
    e.score = 0 → ∃ before after, t.ranked = before ++ (slot, e) :: after
      ∧ (∀ x ∈ after, x.2.score = 0) ∧ ∀ i x, t.entry i = some x → x.state = .seen → 0 < x.score →
        (i, x) ∈ before)
  ∧ ∀ (prefs : List PreferenceRecord) (e : Entry),
    ∃ preference, rescore prefs e = { e with
        preference := preference, score := scoreOf { e with preference := preference } }
      ∧ ((∀ r ∈ prefs, r.operator ≠ e.net.operator) → preference = .weight 1)
      ∧ ∀ before r after, prefs = before ++ r :: after → r.operator = e.net.operator →
        (∀ x ∈ before, x.operator ≠ e.net.operator) → preference = r.preference

/-- 01 R5, R8, R9: a sample applied to an entry: a first one sets the averages, a later one moves them by a
quarter of the difference truncated toward zero, toward the sample and never past it; the count goes up to
255, the age becomes 0, the state SEEN, the score follows; nothing else moves. -/
def Obligations.SampleAveraged : Prop :=
  ∀ (prefs : List PreferenceRecord) (m : Sample) (e : Entry) (level quality : Int),
    (e.samples = 0 → level = 4 * m.level) →
    (0 < e.samples → level = e.level + Int.tdiv (4 * m.level - e.level) 4) →
    (m.quality = none → quality = if e.samples = 0 then 0 else e.quality) →
    (∀ q, m.quality = some q → quality =
      if e.samples = 0 then 4 * q else e.quality + Int.tdiv (4 * q - e.quality) 4) →
    e.sampled prefs m = rescore prefs { e with
        level := level, quality := quality, samples := min 255 (e.samples + 1), age := 0, state := .seen }
    ∧ (0 < e.samples →
      (4 * m.level - e.level ≤ 3 → -3 ≤ 4 * m.level - e.level → level = e.level)
      ∧ (4 ≤ 4 * m.level - e.level → e.level < level ∧ level ≤ 4 * m.level)
      ∧ (4 * m.level - e.level ≤ -4 → level < e.level ∧ 4 * m.level ≤ level))

/-- 01 R20: the ranked order holds each SEEN entry exactly once, by score, highest first, then age, lowest
first, then slot, lowest first; LOST entries and FREE slots are not in it. -/
def Obligations.RankedOrder : Prop :=
  ∀ t : NetTable,
    (∀ slot e, (slot, e) ∈ t.ranked ↔ t.entry slot = some e ∧ e.state = .seen)
    ∧ (t.ranked.map Prod.fst).Nodup
    ∧ t.ranked.Pairwise (fun a b => b.2.score < a.2.score
      ∨ (a.2.score = b.2.score ∧ (a.2.age < b.2.age ∨ (a.2.age = b.2.age ∧ a.1 < b.1))))

/-- 01 R21, R22: what an answer of the first kind is: the first entry in ranked order that is SEEN, not
barred, at or above the floor, of a class of the filter, on a port that takes orders and not yet tried by the
current DIAL step; none where no entry is. -/
def Obligations.SelectionAnswer : Prop :=
  ∀ (s : State) (filter : ClassSet) (fits : TableSlot → Prop),
    (∀ slot, fits slot ↔ ∃ e, s.table.entry slot = some e ∧ e.state = .seen ∧ e.preference ≠ .bar
      ∧ s.cfg.tuning.floor ≤ e.score
      ∧ (filter = ⟨false, false, false⟩ ∨ filter.has e.net.cls = true)
      ∧ (s.port e.port).power ≠ .fault ∧ (s.port e.port).power ≠ .dead
      ∧ (s.port e.port).power ≠ .disabled
      ∧ ∀ d, s.campaign.dialStep = some d → slot ∉ d.excluded) →
    (firstEligible s filter = none ↔ ∀ slot, ¬fits slot)
    ∧ ∀ slot, firstEligible s filter = some slot ↔
      ∃ before after e, s.table.ranked = before ++ (slot, e) :: after ∧ fits slot
        ∧ ∀ x ∈ before, ¬fits x.1

/-- 10 R182, R181: the check value: FFFFh at the start, each byte combined into the upper eight bits, eight
shifts with 1021h; 29B1h over the nine characters 1 to 9; a body followed by its check value comes to 0, and
by no other two bytes. A frame on the line carries the check value of its LEN, TYPE and PAYLOAD, high byte
first. -/
def Obligations.CheckValue : Prop :=
  crc16 [] = 0xFFFF#16
  ∧ (∀ (bytes : List Byte) (b : Byte), crc16 (bytes ++ [b]) =
      (List.range 8).foldl (fun r _ => if r.getLsbD 15 then (r <<< 1) ^^^ 0x1021#16 else r <<< 1)
        (crc16 bytes ^^^ (b ++ 0#8)))
  ∧ crc16 [0x31, 0x32, 0x33, 0x34, 0x35, 0x36, 0x37, 0x38, 0x39] = 0x29B1#16
  ∧ (∀ (bytes : List Byte) (hi lo : Byte), crc16 (bytes ++ [hi, lo]) = 0#16 ↔ hi ++ lo = crc16 bytes)
  ∧ ∀ f : Frame, ∃ hi lo, hi ++ lo = crc16 (byteOf (f.payload.length + 1) :: f.type :: f.payload)
    ∧ f.line = 0xA5 :: byteOf (f.payload.length + 1) :: f.type :: (f.payload ++ [hi, lo])

/-! ## Encoding -/

/-- 10 R180, R186, 10 section 10.7: every request that fits a frame is read back from its frame as it was sent,
every field at every value its bytes admit; a byte on the line is ten bits, a start bit 0, the data bits, least
significant first, and a stop bit 1, and the bytes of a frame are read back from its bits. That READ_PLAN of BOX and
of DESTINATION and READ_LOG of SUMMARY are long enough with their own fields is the model's choice (log 41), and
the layout follows the readings of log 21. -/
def Obligations.RequestsReadBack : Prop :=
  (∀ r : Request, r.wellFormed = true →
    parseRequest (encodeRequest r) = .request r ∧ (encodeRequest r).payload.length ≤ 199
    ∧ lineBytes? (lineBits (encodeRequest r).line) = some (encodeRequest r).line)
  ∧ ∀ bytes : List Byte,
    lineBits bytes = bytes.flatMap (fun b => false :: ((List.range 8).map b.getLsbD ++ [true]))
    ∧ lineBytes? (lineBits bytes) = some bytes

/-! ## What every step keeps -/

/-- 10 R183, R185, 05 R106, R108: the inbound queue never holds more than 4 frames and the outbound queue never
more than 8, the Attempt Log never more than 16 records, and its counter stays at 65535, whatever command is
taken. -/
def Obligations.QueuesBounded : Prop :=
  (∀ s t : State, s.link.bounded → step s = .next t → t.link.bounded)
  ∧ ∀ s t : State, s.log.bounded → step s = .next t → t.log.bounded

/-- 02 R27, R47 to R49, 08 R159, 09 R169, 10 R189, 11 R195, R199: every value of the working configuration,
the stored image and a snapshot being written stays one that its request checks or clamps it to. -/
def Obligations.ConfigurationInRange : Prop :=
  ∀ s t : State, s.configInRange → step s = .next t → t.configInRange

/-- 01 section 1.1, R7, R14: every entry's averages, sample count, age, failure count and score stay in their
ranges. -/
def Obligations.TableInRange : Prop :=
  ∀ s t : State, s.table.inRange → step s = .next t → t.table.inRange

/-- 01 R1: no two entries ever share port, operator and class. -/
def Obligations.TableDistinct : Prop :=
  ∀ s t : State, s.table.distinct → step s = .next t → t.table.distinct

/-- 06 R116, R118: no port ever holds more than 4 queued orders, and one that is OFF, DISABLED, FAULT or DEAD
holds none, queued or in flight. -/
def Obligations.PortsOrderly : Prop :=
  ∀ s t : State, s.portsOrderly → step s = .next t → t.portsOrderly

/-- 11 R199: the state after reset meets every invariant. The state after reset stands on logs 7, 8 and 9. -/
def Obligations.ResetMeetsInvariants : Prop :=
  State.reset.link.bounded ∧ State.reset.log.bounded ∧ State.reset.configInRange ∧ State.reset.table.inRange
    ∧ State.reset.table.distinct ∧ State.reset.portsOrderly
end

