-- ==== Sys2Proof/Laws/Chain.lean ====
section
/-! SUPPORT. Running the campaign's chain: one link at a time, and a chain that rests within a small bound
rests within the event's bound with the same state. -/

namespace Sys2Proof.Machine

theorem runGo_zero (g : Go) (s : State) : runGo 0 g s = none := rfl

theorem runGo_rest (n : Nat) (s : State) : runGo (n + 1) .rest s = some s := rfl

theorem runGo_succ (n : Nat) (g : Go) (s : State) (h : g ≠ .rest) :
    runGo (n + 1) g s = runGo n (goStep g s).1 (goStep g s).2 := by
  cases g <;> first | exact absurd rfl h | rfl

/-- A chain that rests within a bound rests within a greater one, with the same state. -/
theorem runGo_more (n k : Nat) (g : Go) (s t : State) (h : runGo n g s = some t) :
    runGo (n + k) g s = some t := by
  induction n generalizing g s with
  | zero => simp [runGo_zero] at h
  | succ n ih =>
    by_cases hg : g = .rest
    · subst hg
      rw [Nat.succ_add_eq_add_succ, Nat.add_succ, runGo_rest]
      simpa [runGo_rest] using h
    · rw [runGo_succ n g s hg] at h
      rw [show n + 1 + k = (n + k) + 1 by omega, runGo_succ _ g s hg]
      exact ih _ _ h

/-- A chain that rests within a bound no greater than the event's ends its event. -/
theorem runChain_of_runGo (n : Nat) (hn : n ≤ chainBound) (key : StateKey) (g : Go) (s t : State)
    (h : runGo n g s = some t) : runChain key g s = some (reportChange key t) := by
  have h1 : chainBound = n + (chainBound - n) := by omega
  rw [runChain, h1, runGo_more n _ g s t h]
  rfl

/-- A first link that rests ends the event. -/
theorem runChain_one (key : StateKey) (g : Go) (s t : State) (hg : g ≠ .rest) (h : goStep g s = (.rest, t)) :
    runChain key g s = some (reportChange key t) := by
  refine runChain_of_runGo 2 (by unfold chainBound; omega) key g s t ?_
  rw [runGo_succ 1 g s hg, h]
  rfl

/-- Nothing to do ends the event. -/
theorem runChain_rest (key : StateKey) (s : State) : runChain key .rest s = some (reportChange key s) :=
  runChain_of_runGo 1 (by unfold chainBound; omega) key .rest s s rfl

end Sys2Proof.Machine
end

