-- ==== Sys2Proof/Laws/State.lean ====
section
/-! SUPPORT. The small lemmas of State's modifiers: what each leaves of every field, and how the values of
one port are read after a change of another. -/

namespace Sys2Proof

/-! ## One value for each port -/

@[simp] theorem PerPort.get_put_self {α : Type} (v : PerPort α) (p : Port) (a : α) : (v.put p a).get p = a := by
  cases p <;> rfl

theorem PerPort.get_put {α : Type} (v : PerPort α) (p q : Port) (a : α) :
    (v.put p a).get q = if q = p then a else v.get q := by
  cases p <;> cases q <;> rfl

theorem PerPort.get_put_of_ne {α : Type} (v : PerPort α) {p q : Port} (a : α) (h : q ≠ p) :
    (v.put p a).get q = v.get q := by
  rw [PerPort.get_put, if_neg h]

@[simp] theorem PerPort.get_build {α : Type} (f : Port → α) (p : Port) : (PerPort.build f).get p = f p := by
  cases p <;> rfl

@[simp] theorem PerPort.get_map {α β : Type} (f : α → β) (v : PerPort α) (p : Port) :
    (v.map f).get p = f (v.get p) := by
  cases p <;> rfl

@[simp] theorem PerPort.put_put {α : Type} (v : PerPort α) (p : Port) (a b : α) :
    (v.put p a).put p b = v.put p b := by
  cases p <;> rfl

@[simp] theorem PerPort.put_get {α : Type} (v : PerPort α) (p : Port) : v.put p (v.get p) = v := by
  cases p <;> rfl

/-- Two families of values that agree on every port are one. -/
theorem PerPort.ext_get {α : Type} {v w : PerPort α} (h : ∀ p, v.get p = w.get p) : v = w := by
  cases v
  cases w
  have h0 := h .p0
  have h1 := h .p1
  have h2 := h .p2
  have h3 := h .p3
  simp only [PerPort.get] at h0 h1 h2 h3
  rw [h0, h1, h2, h3]

end Sys2Proof

namespace Sys2Proof.Machine

/-! ## A change of the Network Table -/

@[simp] theorem State.onTable_cfg (s : State) (f : NetTable → NetTable) : (s.onTable f).cfg = s.cfg := rfl
@[simp] theorem State.onTable_table (s : State) (f : NetTable → NetTable) : (s.onTable f).table = f s.table := rfl
@[simp] theorem State.onTable_log (s : State) (f : NetTable → NetTable) : (s.onTable f).log = s.log := rfl
@[simp] theorem State.onTable_campaign (s : State) (f : NetTable → NetTable) : (s.onTable f).campaign = s.campaign := rfl
@[simp] theorem State.onTable_ports (s : State) (f : NetTable → NetTable) : (s.onTable f).ports = s.ports := rfl
@[simp] theorem State.onTable_survey (s : State) (f : NetTable → NetTable) : (s.onTable f).survey = s.survey := rfl
@[simp] theorem State.onTable_supply (s : State) (f : NetTable → NetTable) : (s.onTable f).supply = s.supply := rfl
@[simp] theorem State.onTable_link (s : State) (f : NetTable → NetTable) : (s.onTable f).link = s.link := rfl
@[simp] theorem State.onTable_store (s : State) (f : NetTable → NetTable) : (s.onTable f).store = s.store := rfl
@[simp] theorem State.onTable_board (s : State) (f : NetTable → NetTable) : (s.onTable f).board = s.board := rfl
@[simp] theorem State.onTable_straps (s : State) (f : NetTable → NetTable) : (s.onTable f).straps = s.straps := rfl
@[simp] theorem State.onTable_armed (s : State) (f : NetTable → NetTable) : (s.onTable f).armed = s.armed := rfl
@[simp] theorem State.onTable_serial (s : State) (f : NetTable → NetTable) : (s.onTable f).serial = s.serial := rfl
@[simp] theorem State.onTable_pending (s : State) (f : NetTable → NetTable) : (s.onTable f).pending = s.pending := rfl
@[simp] theorem State.onTable_port (s : State) (f : NetTable → NetTable) (q : Port) : (s.onTable f).port q = s.port q := rfl

/-! ## A change of the Attempt Log -/

@[simp] theorem State.onLog_cfg (s : State) (f : AttemptLog → AttemptLog) : (s.onLog f).cfg = s.cfg := rfl
@[simp] theorem State.onLog_table (s : State) (f : AttemptLog → AttemptLog) : (s.onLog f).table = s.table := rfl
@[simp] theorem State.onLog_log (s : State) (f : AttemptLog → AttemptLog) : (s.onLog f).log = f s.log := rfl
@[simp] theorem State.onLog_campaign (s : State) (f : AttemptLog → AttemptLog) : (s.onLog f).campaign = s.campaign := rfl
@[simp] theorem State.onLog_ports (s : State) (f : AttemptLog → AttemptLog) : (s.onLog f).ports = s.ports := rfl
@[simp] theorem State.onLog_survey (s : State) (f : AttemptLog → AttemptLog) : (s.onLog f).survey = s.survey := rfl
@[simp] theorem State.onLog_supply (s : State) (f : AttemptLog → AttemptLog) : (s.onLog f).supply = s.supply := rfl
@[simp] theorem State.onLog_link (s : State) (f : AttemptLog → AttemptLog) : (s.onLog f).link = s.link := rfl
@[simp] theorem State.onLog_store (s : State) (f : AttemptLog → AttemptLog) : (s.onLog f).store = s.store := rfl
@[simp] theorem State.onLog_board (s : State) (f : AttemptLog → AttemptLog) : (s.onLog f).board = s.board := rfl
@[simp] theorem State.onLog_straps (s : State) (f : AttemptLog → AttemptLog) : (s.onLog f).straps = s.straps := rfl
@[simp] theorem State.onLog_armed (s : State) (f : AttemptLog → AttemptLog) : (s.onLog f).armed = s.armed := rfl
@[simp] theorem State.onLog_serial (s : State) (f : AttemptLog → AttemptLog) : (s.onLog f).serial = s.serial := rfl
@[simp] theorem State.onLog_pending (s : State) (f : AttemptLog → AttemptLog) : (s.onLog f).pending = s.pending := rfl
@[simp] theorem State.onLog_port (s : State) (f : AttemptLog → AttemptLog) (q : Port) : (s.onLog f).port q = s.port q := rfl

/-! ## A change of the campaign context -/

@[simp] theorem State.onCampaign_cfg (s : State) (f : Campaign → Campaign) : (s.onCampaign f).cfg = s.cfg := rfl
@[simp] theorem State.onCampaign_table (s : State) (f : Campaign → Campaign) : (s.onCampaign f).table = s.table := rfl
@[simp] theorem State.onCampaign_log (s : State) (f : Campaign → Campaign) : (s.onCampaign f).log = s.log := rfl
@[simp] theorem State.onCampaign_campaign (s : State) (f : Campaign → Campaign) : (s.onCampaign f).campaign = f s.campaign := rfl
@[simp] theorem State.onCampaign_ports (s : State) (f : Campaign → Campaign) : (s.onCampaign f).ports = s.ports := rfl
@[simp] theorem State.onCampaign_survey (s : State) (f : Campaign → Campaign) : (s.onCampaign f).survey = s.survey := rfl
@[simp] theorem State.onCampaign_supply (s : State) (f : Campaign → Campaign) : (s.onCampaign f).supply = s.supply := rfl
@[simp] theorem State.onCampaign_link (s : State) (f : Campaign → Campaign) : (s.onCampaign f).link = s.link := rfl
@[simp] theorem State.onCampaign_store (s : State) (f : Campaign → Campaign) : (s.onCampaign f).store = s.store := rfl
@[simp] theorem State.onCampaign_board (s : State) (f : Campaign → Campaign) : (s.onCampaign f).board = s.board := rfl
@[simp] theorem State.onCampaign_straps (s : State) (f : Campaign → Campaign) : (s.onCampaign f).straps = s.straps := rfl
@[simp] theorem State.onCampaign_armed (s : State) (f : Campaign → Campaign) : (s.onCampaign f).armed = s.armed := rfl
@[simp] theorem State.onCampaign_serial (s : State) (f : Campaign → Campaign) : (s.onCampaign f).serial = s.serial := rfl
@[simp] theorem State.onCampaign_pending (s : State) (f : Campaign → Campaign) : (s.onCampaign f).pending = s.pending := rfl
@[simp] theorem State.onCampaign_port (s : State) (f : Campaign → Campaign) (q : Port) : (s.onCampaign f).port q = s.port q := rfl

/-! ## A change of one port context -/

@[simp] theorem State.onPort_cfg (s : State) (p : Port) (f : PortContext → PortContext) : (s.onPort p f).cfg = s.cfg := rfl
@[simp] theorem State.onPort_table (s : State) (p : Port) (f : PortContext → PortContext) : (s.onPort p f).table = s.table := rfl
@[simp] theorem State.onPort_log (s : State) (p : Port) (f : PortContext → PortContext) : (s.onPort p f).log = s.log := rfl
@[simp] theorem State.onPort_campaign (s : State) (p : Port) (f : PortContext → PortContext) : (s.onPort p f).campaign = s.campaign := rfl
@[simp] theorem State.onPort_ports (s : State) (p : Port) (f : PortContext → PortContext) : (s.onPort p f).ports = s.ports.put p (f (s.ports.get p)) := rfl
@[simp] theorem State.onPort_survey (s : State) (p : Port) (f : PortContext → PortContext) : (s.onPort p f).survey = s.survey := rfl
@[simp] theorem State.onPort_supply (s : State) (p : Port) (f : PortContext → PortContext) : (s.onPort p f).supply = s.supply := rfl
@[simp] theorem State.onPort_link (s : State) (p : Port) (f : PortContext → PortContext) : (s.onPort p f).link = s.link := rfl
@[simp] theorem State.onPort_store (s : State) (p : Port) (f : PortContext → PortContext) : (s.onPort p f).store = s.store := rfl
@[simp] theorem State.onPort_board (s : State) (p : Port) (f : PortContext → PortContext) : (s.onPort p f).board = s.board := rfl
@[simp] theorem State.onPort_straps (s : State) (p : Port) (f : PortContext → PortContext) : (s.onPort p f).straps = s.straps := rfl
@[simp] theorem State.onPort_armed (s : State) (p : Port) (f : PortContext → PortContext) : (s.onPort p f).armed = s.armed := rfl
@[simp] theorem State.onPort_serial (s : State) (p : Port) (f : PortContext → PortContext) : (s.onPort p f).serial = s.serial := rfl
@[simp] theorem State.onPort_pending (s : State) (p : Port) (f : PortContext → PortContext) : (s.onPort p f).pending = s.pending := rfl

/-! ## A change of the Survey Timer -/

@[simp] theorem State.onSurvey_cfg (s : State) (f : Survey → Survey) : (s.onSurvey f).cfg = s.cfg := rfl
@[simp] theorem State.onSurvey_table (s : State) (f : Survey → Survey) : (s.onSurvey f).table = s.table := rfl
@[simp] theorem State.onSurvey_log (s : State) (f : Survey → Survey) : (s.onSurvey f).log = s.log := rfl
@[simp] theorem State.onSurvey_campaign (s : State) (f : Survey → Survey) : (s.onSurvey f).campaign = s.campaign := rfl
@[simp] theorem State.onSurvey_ports (s : State) (f : Survey → Survey) : (s.onSurvey f).ports = s.ports := rfl
@[simp] theorem State.onSurvey_survey (s : State) (f : Survey → Survey) : (s.onSurvey f).survey = f s.survey := rfl
@[simp] theorem State.onSurvey_supply (s : State) (f : Survey → Survey) : (s.onSurvey f).supply = s.supply := rfl
@[simp] theorem State.onSurvey_link (s : State) (f : Survey → Survey) : (s.onSurvey f).link = s.link := rfl
@[simp] theorem State.onSurvey_store (s : State) (f : Survey → Survey) : (s.onSurvey f).store = s.store := rfl
@[simp] theorem State.onSurvey_board (s : State) (f : Survey → Survey) : (s.onSurvey f).board = s.board := rfl
@[simp] theorem State.onSurvey_straps (s : State) (f : Survey → Survey) : (s.onSurvey f).straps = s.straps := rfl
@[simp] theorem State.onSurvey_armed (s : State) (f : Survey → Survey) : (s.onSurvey f).armed = s.armed := rfl
@[simp] theorem State.onSurvey_serial (s : State) (f : Survey → Survey) : (s.onSurvey f).serial = s.serial := rfl
@[simp] theorem State.onSurvey_pending (s : State) (f : Survey → Survey) : (s.onSurvey f).pending = s.pending := rfl
@[simp] theorem State.onSurvey_port (s : State) (f : Survey → Survey) (q : Port) : (s.onSurvey f).port q = s.port q := rfl

/-! ## A change of the Supply Monitor -/

@[simp] theorem State.onSupply_cfg (s : State) (f : Supply → Supply) : (s.onSupply f).cfg = s.cfg := rfl
@[simp] theorem State.onSupply_table (s : State) (f : Supply → Supply) : (s.onSupply f).table = s.table := rfl
@[simp] theorem State.onSupply_log (s : State) (f : Supply → Supply) : (s.onSupply f).log = s.log := rfl
@[simp] theorem State.onSupply_campaign (s : State) (f : Supply → Supply) : (s.onSupply f).campaign = s.campaign := rfl
@[simp] theorem State.onSupply_ports (s : State) (f : Supply → Supply) : (s.onSupply f).ports = s.ports := rfl
@[simp] theorem State.onSupply_survey (s : State) (f : Supply → Supply) : (s.onSupply f).survey = s.survey := rfl
@[simp] theorem State.onSupply_supply (s : State) (f : Supply → Supply) : (s.onSupply f).supply = f s.supply := rfl
@[simp] theorem State.onSupply_link (s : State) (f : Supply → Supply) : (s.onSupply f).link = s.link := rfl
@[simp] theorem State.onSupply_store (s : State) (f : Supply → Supply) : (s.onSupply f).store = s.store := rfl
@[simp] theorem State.onSupply_board (s : State) (f : Supply → Supply) : (s.onSupply f).board = s.board := rfl
@[simp] theorem State.onSupply_straps (s : State) (f : Supply → Supply) : (s.onSupply f).straps = s.straps := rfl
@[simp] theorem State.onSupply_armed (s : State) (f : Supply → Supply) : (s.onSupply f).armed = s.armed := rfl
@[simp] theorem State.onSupply_serial (s : State) (f : Supply → Supply) : (s.onSupply f).serial = s.serial := rfl
@[simp] theorem State.onSupply_pending (s : State) (f : Supply → Supply) : (s.onSupply f).pending = s.pending := rfl
@[simp] theorem State.onSupply_port (s : State) (f : Supply → Supply) (q : Port) : (s.onSupply f).port q = s.port q := rfl

/-! ## A change of the Host Link Unit -/

@[simp] theorem State.onLink_cfg (s : State) (f : Link → Link) : (s.onLink f).cfg = s.cfg := rfl
@[simp] theorem State.onLink_table (s : State) (f : Link → Link) : (s.onLink f).table = s.table := rfl
@[simp] theorem State.onLink_log (s : State) (f : Link → Link) : (s.onLink f).log = s.log := rfl
@[simp] theorem State.onLink_campaign (s : State) (f : Link → Link) : (s.onLink f).campaign = s.campaign := rfl
@[simp] theorem State.onLink_ports (s : State) (f : Link → Link) : (s.onLink f).ports = s.ports := rfl
@[simp] theorem State.onLink_survey (s : State) (f : Link → Link) : (s.onLink f).survey = s.survey := rfl
@[simp] theorem State.onLink_supply (s : State) (f : Link → Link) : (s.onLink f).supply = s.supply := rfl
@[simp] theorem State.onLink_link (s : State) (f : Link → Link) : (s.onLink f).link = f s.link := rfl
@[simp] theorem State.onLink_store (s : State) (f : Link → Link) : (s.onLink f).store = s.store := rfl
@[simp] theorem State.onLink_board (s : State) (f : Link → Link) : (s.onLink f).board = s.board := rfl
@[simp] theorem State.onLink_straps (s : State) (f : Link → Link) : (s.onLink f).straps = s.straps := rfl
@[simp] theorem State.onLink_armed (s : State) (f : Link → Link) : (s.onLink f).armed = s.armed := rfl
@[simp] theorem State.onLink_serial (s : State) (f : Link → Link) : (s.onLink f).serial = s.serial := rfl
@[simp] theorem State.onLink_pending (s : State) (f : Link → Link) : (s.onLink f).pending = s.pending := rfl
@[simp] theorem State.onLink_port (s : State) (f : Link → Link) (q : Port) : (s.onLink f).port q = s.port q := rfl

/-! ## A change of the working configuration -/

@[simp] theorem State.onConfig_cfg (s : State) (f : WorkingConfig → WorkingConfig) : (s.onConfig f).cfg = f s.cfg := rfl
@[simp] theorem State.onConfig_table (s : State) (f : WorkingConfig → WorkingConfig) : (s.onConfig f).table = s.table := rfl
@[simp] theorem State.onConfig_log (s : State) (f : WorkingConfig → WorkingConfig) : (s.onConfig f).log = s.log := rfl
@[simp] theorem State.onConfig_campaign (s : State) (f : WorkingConfig → WorkingConfig) : (s.onConfig f).campaign = s.campaign := rfl
@[simp] theorem State.onConfig_ports (s : State) (f : WorkingConfig → WorkingConfig) : (s.onConfig f).ports = s.ports := rfl
@[simp] theorem State.onConfig_survey (s : State) (f : WorkingConfig → WorkingConfig) : (s.onConfig f).survey = s.survey := rfl
@[simp] theorem State.onConfig_supply (s : State) (f : WorkingConfig → WorkingConfig) : (s.onConfig f).supply = s.supply := rfl
@[simp] theorem State.onConfig_link (s : State) (f : WorkingConfig → WorkingConfig) : (s.onConfig f).link = s.link := rfl
@[simp] theorem State.onConfig_store (s : State) (f : WorkingConfig → WorkingConfig) : (s.onConfig f).store = s.store := rfl
@[simp] theorem State.onConfig_board (s : State) (f : WorkingConfig → WorkingConfig) : (s.onConfig f).board = s.board := rfl
@[simp] theorem State.onConfig_straps (s : State) (f : WorkingConfig → WorkingConfig) : (s.onConfig f).straps = s.straps := rfl
@[simp] theorem State.onConfig_armed (s : State) (f : WorkingConfig → WorkingConfig) : (s.onConfig f).armed = s.armed := rfl
@[simp] theorem State.onConfig_serial (s : State) (f : WorkingConfig → WorkingConfig) : (s.onConfig f).serial = s.serial := rfl
@[simp] theorem State.onConfig_pending (s : State) (f : WorkingConfig → WorkingConfig) : (s.onConfig f).pending = s.pending := rfl
@[simp] theorem State.onConfig_port (s : State) (f : WorkingConfig → WorkingConfig) (q : Port) : (s.onConfig f).port q = s.port q := rfl

/-! ## A change of the model's own count -/

@[simp] theorem State.bumpSerial_cfg (s : State) : s.bumpSerial.cfg = s.cfg := rfl
@[simp] theorem State.bumpSerial_table (s : State) : s.bumpSerial.table = s.table := rfl
@[simp] theorem State.bumpSerial_log (s : State) : s.bumpSerial.log = s.log := rfl
@[simp] theorem State.bumpSerial_campaign (s : State) : s.bumpSerial.campaign = s.campaign := rfl
@[simp] theorem State.bumpSerial_ports (s : State) : s.bumpSerial.ports = s.ports := rfl
@[simp] theorem State.bumpSerial_survey (s : State) : s.bumpSerial.survey = s.survey := rfl
@[simp] theorem State.bumpSerial_supply (s : State) : s.bumpSerial.supply = s.supply := rfl
@[simp] theorem State.bumpSerial_link (s : State) : s.bumpSerial.link = s.link := rfl
@[simp] theorem State.bumpSerial_store (s : State) : s.bumpSerial.store = s.store := rfl
@[simp] theorem State.bumpSerial_board (s : State) : s.bumpSerial.board = s.board := rfl
@[simp] theorem State.bumpSerial_straps (s : State) : s.bumpSerial.straps = s.straps := rfl
@[simp] theorem State.bumpSerial_armed (s : State) : s.bumpSerial.armed = s.armed := rfl
@[simp] theorem State.bumpSerial_serial (s : State) : s.bumpSerial.serial = s.serial + 1 := rfl
@[simp] theorem State.bumpSerial_pending (s : State) : s.bumpSerial.pending = s.pending := rfl
@[simp] theorem State.bumpSerial_port (s : State) (q : Port) : s.bumpSerial.port q = s.port q := rfl

/-! ## One port context after a change of another -/

@[simp] theorem State.onPort_port_self (s : State) (p : Port) (f : PortContext → PortContext) :
    (s.onPort p f).port p = f (s.port p) := by
  simp [State.port]

theorem State.onPort_port (s : State) (p q : Port) (f : PortContext → PortContext) :
    (s.onPort p f).port q = if q = p then f (s.port p) else s.port q := by
  simp [State.port, PerPort.get_put]

theorem State.onPort_port_of_ne (s : State) {p q : Port} (f : PortContext → PortContext) (h : q ≠ p) :
    (s.onPort p f).port q = s.port q := by
  rw [State.onPort_port, if_neg h]

/-- Two changes of one port are one. -/
theorem State.onPort_onPort (s : State) (p : Port) (f g : PortContext → PortContext) :
    (s.onPort p f).onPort p g = s.onPort p (fun c => g (f c)) := by
  simp [State.onPort]

/-! ## Numbers -/

theorem countUp_le {limit n : Nat} : countUp limit n ≤ limit := by
  unfold countUp
  split <;> omega

theorem clampNat_le {lo hi n : Nat} (h : lo ≤ hi) : clampNat lo hi n ≤ hi := by
  unfold clampNat
  split
  · exact h
  · split <;> omega

theorem le_clampNat {lo hi n : Nat} (h : lo ≤ hi) : lo ≤ clampNat lo hi n := by
  unfold clampNat
  split
  · omega
  · split <;> omega

theorem clampInt_le {lo hi n : Int} (h : lo ≤ hi) : clampInt lo hi n ≤ hi := by
  unfold clampInt
  split
  · exact h
  · split <;> omega

theorem le_clampInt {lo hi n : Int} (h : lo ≤ hi) : lo ≤ clampInt lo hi n := by
  unfold clampInt
  split
  · omega
  · split <;> omega

end Sys2Proof.Machine
end

