-- ==== Sys2Proof/Laws/Frames.lean ====
section
/-! SUPPORT. What each shared operation leaves alone: one lemma per operation, with one equation for each
block of the state that it does not touch, and `outside` for what no operation of this list touches. -/

namespace Sys2Proof.Machine

@[simp] theorem State.onTable_outside (s : State) (f : NetTable → NetTable) : (s.onTable f).outside = s.outside := rfl
@[simp] theorem State.onLog_outside (s : State) (f : AttemptLog → AttemptLog) : (s.onLog f).outside = s.outside := rfl
@[simp] theorem State.onCampaign_outside (s : State) (f : Campaign → Campaign) : (s.onCampaign f).outside = s.outside := rfl
@[simp] theorem State.onPort_outside (s : State) (p : Port) (f : PortContext → PortContext) : (s.onPort p f).outside = s.outside := rfl
@[simp] theorem State.onSurvey_outside (s : State) (f : Survey → Survey) : (s.onSurvey f).outside = s.outside := rfl
@[simp] theorem State.onSupply_outside (s : State) (f : Supply → Supply) : (s.onSupply f).outside = s.outside := rfl
@[simp] theorem State.bumpSerial_outside (s : State) : s.bumpSerial.outside = s.outside := rfl

@[simp] theorem raise_frame (r : Report) (s : State) :
    (raise r s).outside = s.outside
      ∧ (raise r s).table = s.table
      ∧ (raise r s).log = s.log
      ∧ (raise r s).campaign = s.campaign
      ∧ (raise r s).ports = s.ports
      ∧ (raise r s).survey = s.survey
      ∧ (raise r s).supply = s.supply
      ∧ (raise r s).serial = s.serial := by
  refine ⟨?_, ?_, ?_, ?_, ?_, ?_, ?_, ?_⟩ <;>
    (unfold raise; split <;> (try split) <;> rfl)

@[simp] theorem rescoreAll_frame (s : State) :
    (rescoreAll s).outside = s.outside
      ∧ (rescoreAll s).log = s.log
      ∧ (rescoreAll s).campaign = s.campaign
      ∧ (rescoreAll s).ports = s.ports
      ∧ (rescoreAll s).survey = s.survey
      ∧ (rescoreAll s).supply = s.supply
      ∧ (rescoreAll s).link = s.link
      ∧ (rescoreAll s).serial = s.serial := by
  simp [rescoreAll]

@[simp] theorem grantHold_frame (k : HoldKind) (i : TableSlot) (s : State) :
    (grantHold k i s).outside = s.outside
      ∧ (grantHold k i s).log = s.log
      ∧ (grantHold k i s).campaign = s.campaign
      ∧ (grantHold k i s).ports = s.ports
      ∧ (grantHold k i s).survey = s.survey
      ∧ (grantHold k i s).supply = s.supply
      ∧ (grantHold k i s).link = s.link
      ∧ (grantHold k i s).serial = s.serial := by
  simp [grantHold]

@[simp] theorem withdrawHold_frame (k : HoldKind) (i : TableSlot) (s : State) :
    (withdrawHold k i s).outside = s.outside
      ∧ (withdrawHold k i s).log = s.log
      ∧ (withdrawHold k i s).campaign = s.campaign
      ∧ (withdrawHold k i s).ports = s.ports
      ∧ (withdrawHold k i s).survey = s.survey
      ∧ (withdrawHold k i s).supply = s.supply
      ∧ (withdrawHold k i s).link = s.link
      ∧ (withdrawHold k i s).serial = s.serial := by
  simp [withdrawHold]

@[simp] theorem withdrawEverywhere_frame (k : HoldKind) (s : State) :
    (withdrawEverywhere k s).outside = s.outside
      ∧ (withdrawEverywhere k s).log = s.log
      ∧ (withdrawEverywhere k s).campaign = s.campaign
      ∧ (withdrawEverywhere k s).ports = s.ports
      ∧ (withdrawEverywhere k s).survey = s.survey
      ∧ (withdrawEverywhere k s).supply = s.supply
      ∧ (withdrawEverywhere k s).link = s.link
      ∧ (withdrawEverywhere k s).serial = s.serial := by
  simp [withdrawEverywhere]

@[simp] theorem withdrawAllHolds_frame (s : State) :
    (withdrawAllHolds s).outside = s.outside
      ∧ (withdrawAllHolds s).log = s.log
      ∧ (withdrawAllHolds s).campaign = s.campaign
      ∧ (withdrawAllHolds s).ports = s.ports
      ∧ (withdrawAllHolds s).survey = s.survey
      ∧ (withdrawAllHolds s).supply = s.supply
      ∧ (withdrawAllHolds s).link = s.link
      ∧ (withdrawAllHolds s).serial = s.serial := by
  simp [withdrawAllHolds]

@[simp] theorem freeSlot_frame (i : TableSlot) (c : FreeCause) (s : State) :
    (freeSlot i c s).outside = s.outside
      ∧ (freeSlot i c s).log = s.log
      ∧ (freeSlot i c s).campaign = s.campaign
      ∧ (freeSlot i c s).ports = s.ports
      ∧ (freeSlot i c s).survey = s.survey
      ∧ (freeSlot i c s).supply = s.supply
      ∧ (freeSlot i c s).serial = s.serial := by
  simp [freeSlot]

@[simp] theorem createEntry_frame (i : TableSlot) (p : Port) (m : Sample) (s : State) :
    (createEntry i p m s).outside = s.outside
      ∧ (createEntry i p m s).log = s.log
      ∧ (createEntry i p m s).campaign = s.campaign
      ∧ (createEntry i p m s).ports = s.ports
      ∧ (createEntry i p m s).survey = s.survey
      ∧ (createEntry i p m s).supply = s.supply
      ∧ (createEntry i p m s).serial = s.serial := by
  simp [createEntry]

@[simp] theorem recordNew_frame (p : Port) (m : Sample) (s : State) :
    (recordNew p m s).outside = s.outside
      ∧ (recordNew p m s).log = s.log
      ∧ (recordNew p m s).campaign = s.campaign
      ∧ (recordNew p m s).ports = s.ports
      ∧ (recordNew p m s).survey = s.survey
      ∧ (recordNew p m s).supply = s.supply
      ∧ (recordNew p m s).serial = s.serial := by
  refine ⟨?_, ?_, ?_, ?_, ?_, ?_, ?_⟩ <;>
    (unfold recordNew; (repeat' split) <;> simp)

@[simp] theorem sampleSlot_frame (i : TableSlot) (m : Sample) (s : State) :
    (sampleSlot i m s).outside = s.outside
      ∧ (sampleSlot i m s).log = s.log
      ∧ (sampleSlot i m s).campaign = s.campaign
      ∧ (sampleSlot i m s).ports = s.ports
      ∧ (sampleSlot i m s).survey = s.survey
      ∧ (sampleSlot i m s).supply = s.supply
      ∧ (sampleSlot i m s).serial = s.serial := by
  refine ⟨?_, ?_, ?_, ?_, ?_, ?_, ?_⟩ <;>
    (unfold sampleSlot; (repeat' split) <;> simp)

@[simp] theorem loseEntry_frame (i : TableSlot) (s : State) :
    (loseEntry i s).outside = s.outside
      ∧ (loseEntry i s).log = s.log
      ∧ (loseEntry i s).campaign = s.campaign
      ∧ (loseEntry i s).ports = s.ports
      ∧ (loseEntry i s).survey = s.survey
      ∧ (loseEntry i s).supply = s.supply
      ∧ (loseEntry i s).serial = s.serial := by
  refine ⟨?_, ?_, ?_, ?_, ?_, ?_, ?_⟩ <;>
    (unfold loseEntry; (repeat' split) <;> simp)

theorem eachSlot_frame {α : Type} (get : State → α) (f : TableSlot → State → State)
    (hf : ∀ i s, get (f i s) = get s) (l : List TableSlot) (s : State) : get (eachSlot f l s) = get s := by
  induction l generalizing s with
  | nil => rfl
  | cons i rest ih => rw [eachSlot, ih, hf]

theorem eachPort_frame {α : Type} (get : State → α) (f : Port → State → State)
    (hf : ∀ p s, get (f p s) = get s) (l : List Port) (s : State) : get (eachPort f l s) = get s := by
  induction l generalizing s with
  | nil => rfl
  | cons p rest ih => rw [eachPort, ih, hf]

@[simp] theorem losePort_frame (p : Port) (s : State) :
    (losePort p s).outside = s.outside
      ∧ (losePort p s).log = s.log
      ∧ (losePort p s).campaign = s.campaign
      ∧ (losePort p s).ports = s.ports
      ∧ (losePort p s).survey = s.survey
      ∧ (losePort p s).supply = s.supply
      ∧ (losePort p s).serial = s.serial := by
  exact ⟨eachSlot_frame State.outside _ (fun _ _ => by simp) _ _,
    eachSlot_frame State.log _ (fun _ _ => by simp) _ _,
    eachSlot_frame State.campaign _ (fun _ _ => by simp) _ _,
    eachSlot_frame State.ports _ (fun _ _ => by simp) _ _,
    eachSlot_frame State.survey _ (fun _ _ => by simp) _ _,
    eachSlot_frame State.supply _ (fun _ _ => by simp) _ _,
    eachSlot_frame State.serial _ (fun _ _ => by simp) _ _⟩

@[simp] theorem tellOutcome_frame (i : TableSlot) (o : TryOutcome) (c : Option Byte) (s : State) :
    (tellOutcome i o c s).outside = s.outside
      ∧ (tellOutcome i o c s).log = s.log
      ∧ (tellOutcome i o c s).campaign = s.campaign
      ∧ (tellOutcome i o c s).ports = s.ports
      ∧ (tellOutcome i o c s).survey = s.survey
      ∧ (tellOutcome i o c s).supply = s.supply
      ∧ (tellOutcome i o c s).link = s.link
      ∧ (tellOutcome i o c s).serial = s.serial := by
  unfold tellOutcome
  split <;> simp

@[simp] theorem tellConnected_frame (i : TableSlot) (s : State) :
    (tellConnected i s).outside = s.outside
      ∧ (tellConnected i s).log = s.log
      ∧ (tellConnected i s).campaign = s.campaign
      ∧ (tellConnected i s).ports = s.ports
      ∧ (tellConnected i s).survey = s.survey
      ∧ (tellConnected i s).supply = s.supply
      ∧ (tellConnected i s).link = s.link
      ∧ (tellConnected i s).serial = s.serial := by
  simp [tellConnected]

@[simp] theorem decayFailures_frame (s : State) :
    (decayFailures s).outside = s.outside
      ∧ (decayFailures s).log = s.log
      ∧ (decayFailures s).campaign = s.campaign
      ∧ (decayFailures s).ports = s.ports
      ∧ (decayFailures s).survey = s.survey
      ∧ (decayFailures s).supply = s.supply
      ∧ (decayFailures s).link = s.link
      ∧ (decayFailures s).serial = s.serial := by
  simp [decayFailures]

@[simp] theorem ageTable_frame (s : State) :
    (ageTable s).outside = s.outside
      ∧ (ageTable s).log = s.log
      ∧ (ageTable s).campaign = s.campaign
      ∧ (ageTable s).ports = s.ports
      ∧ (ageTable s).survey = s.survey
      ∧ (ageTable s).supply = s.supply
      ∧ (ageTable s).link = s.link
      ∧ (ageTable s).serial = s.serial := by
  simp [ageTable]

@[simp] theorem useNumber_frame (s : State) :
    (useNumber s).outside = s.outside
      ∧ (useNumber s).table = s.table
      ∧ (useNumber s).campaign = s.campaign
      ∧ (useNumber s).ports = s.ports
      ∧ (useNumber s).survey = s.survey
      ∧ (useNumber s).supply = s.supply
      ∧ (useNumber s).link = s.link
      ∧ (useNumber s).serial = s.serial := by
  simp [useNumber]

@[simp] theorem writeRecord_frame (r : AttemptRecord) (s : State) :
    (writeRecord r s).outside = s.outside
      ∧ (writeRecord r s).table = s.table
      ∧ (writeRecord r s).campaign = s.campaign
      ∧ (writeRecord r s).ports = s.ports
      ∧ (writeRecord r s).survey = s.survey
      ∧ (writeRecord r s).supply = s.supply
      ∧ (writeRecord r s).serial = s.serial := by
  simp [writeRecord]

@[simp] theorem writeStepRecord_frame (d : DialStep) (o : TryOutcome) (s : State) :
    (writeStepRecord d o s).outside = s.outside
      ∧ (writeStepRecord d o s).table = s.table
      ∧ (writeStepRecord d o s).campaign = s.campaign
      ∧ (writeStepRecord d o s).ports = s.ports
      ∧ (writeStepRecord d o s).survey = s.survey
      ∧ (writeStepRecord d o s).supply = s.supply
      ∧ (writeStepRecord d o s).serial = s.serial := by
  simp [writeStepRecord]

@[simp] theorem clearLog_frame (s : State) :
    (clearLog s).outside = s.outside
      ∧ (clearLog s).table = s.table
      ∧ (clearLog s).campaign = s.campaign
      ∧ (clearLog s).ports = s.ports
      ∧ (clearLog s).survey = s.survey
      ∧ (clearLog s).supply = s.supply
      ∧ (clearLog s).link = s.link
      ∧ (clearLog s).serial = s.serial := by
  simp [clearLog]

@[simp] theorem writeSummary_frame (o : CampaignOutcome) (s : State) :
    (writeSummary o s).outside = s.outside
      ∧ (writeSummary o s).table = s.table
      ∧ (writeSummary o s).campaign = s.campaign
      ∧ (writeSummary o s).ports = s.ports
      ∧ (writeSummary o s).survey = s.survey
      ∧ (writeSummary o s).supply = s.supply
      ∧ (writeSummary o s).serial = s.serial := by
  simp [writeSummary]

@[simp] theorem reportState_frame (s : State) :
    (reportState s).outside = s.outside
      ∧ (reportState s).table = s.table
      ∧ (reportState s).log = s.log
      ∧ (reportState s).campaign = s.campaign
      ∧ (reportState s).ports = s.ports
      ∧ (reportState s).survey = s.survey
      ∧ (reportState s).supply = s.supply
      ∧ (reportState s).serial = s.serial := by
  simp [reportState]

@[simp] theorem reportChange_frame (k : StateKey) (s : State) :
    (reportChange k s).outside = s.outside
      ∧ (reportChange k s).table = s.table
      ∧ (reportChange k s).log = s.log
      ∧ (reportChange k s).campaign = s.campaign
      ∧ (reportChange k s).ports = s.ports
      ∧ (reportChange k s).survey = s.survey
      ∧ (reportChange k s).supply = s.supply
      ∧ (reportChange k s).serial = s.serial := by
  unfold reportChange
  split <;> simp

@[simp] theorem clearStandby_frame (r : StandbyReason) (s : State) :
    (clearStandby r s).outside = s.outside
      ∧ (clearStandby r s).log = s.log
      ∧ (clearStandby r s).ports = s.ports
      ∧ (clearStandby r s).survey = s.survey
      ∧ (clearStandby r s).supply = s.supply
      ∧ (clearStandby r s).serial = s.serial := by
  unfold clearStandby
  split <;> simp

@[simp] theorem loseAndTell_frame (i : TableSlot) (s : State) :
    (loseAndTell i s).outside = s.outside
      ∧ (loseAndTell i s).log = s.log
      ∧ (loseAndTell i s).ports = s.ports
      ∧ (loseAndTell i s).survey = s.survey
      ∧ (loseAndTell i s).supply = s.supply
      ∧ (loseAndTell i s).serial = s.serial := by
  unfold loseAndTell
  split <;> simp

@[simp] theorem dropCallbackPort_frame (p : Port) (s : State) :
    (dropCallbackPort p s).outside = s.outside
      ∧ (dropCallbackPort p s).log = s.log
      ∧ (dropCallbackPort p s).ports = s.ports
      ∧ (dropCallbackPort p s).survey = s.survey
      ∧ (dropCallbackPort p s).supply = s.supply
      ∧ (dropCallbackPort p s).link = s.link
      ∧ (dropCallbackPort p s).serial = s.serial := by
  unfold dropCallbackPort
  split <;> simp

@[simp] theorem setCall_frame (p : Port) (n : CallState) (s : State) :
    (setCall p n s).outside = s.outside
      ∧ (setCall p n s).log = s.log
      ∧ (setCall p n s).survey = s.survey
      ∧ (setCall p n s).supply = s.supply
      ∧ (setCall p n s).serial = s.serial := by
  refine ⟨?_, ?_, ?_, ?_, ?_⟩ <;>
    (unfold setCall; dsimp only; (repeat' split) <;> simp)

@[simp] theorem setAttachment_frame (p : Port) (a : Attachment) (s : State) :
    (setAttachment p a s).outside = s.outside
      ∧ (setAttachment p a s).log = s.log
      ∧ (setAttachment p a s).survey = s.survey
      ∧ (setAttachment p a s).supply = s.supply
      ∧ (setAttachment p a s).link = s.link
      ∧ (setAttachment p a s).serial = s.serial := by
  unfold setAttachment
  split <;> simp

@[simp] theorem sendOrder_frame (p : Port) (o : Order) (s : State) :
    (sendOrder p o s).outside = s.outside
      ∧ (sendOrder p o s).log = s.log
      ∧ (sendOrder p o s).survey = s.survey
      ∧ (sendOrder p o s).supply = s.supply
      ∧ (sendOrder p o s).serial = s.serial := by
  refine ⟨?_, ?_, ?_, ?_, ?_⟩ <;>
    (unfold sendOrder; dsimp only; (repeat' split) <;> simp)

@[simp] theorem sendNext_frame (p : Port) (s : State) :
    (sendNext p s).outside = s.outside
      ∧ (sendNext p s).log = s.log
      ∧ (sendNext p s).survey = s.survey
      ∧ (sendNext p s).supply = s.supply
      ∧ (sendNext p s).serial = s.serial := by
  refine ⟨?_, ?_, ?_, ?_, ?_⟩ <;>
    (unfold sendNext; (repeat' split) <;> simp)

@[simp] theorem sendWake_frame (p : Port) (r : WakeReason) (s : State) :
    (sendWake p r s).outside = s.outside
      ∧ (sendWake p r s).log = s.log
      ∧ (sendWake p r s).survey = s.survey
      ∧ (sendWake p r s).supply = s.supply
      ∧ (sendWake p r s).serial = s.serial := by
  simp [sendWake]

@[simp] theorem surveyScanEnds_frame (p : Port) (n : Nat) (r : MatchRecord) (s : State) :
    (surveyScanEnds p n r s).outside = s.outside
      ∧ (surveyScanEnds p n r s).table = s.table
      ∧ (surveyScanEnds p n r s).log = s.log
      ∧ (surveyScanEnds p n r s).campaign = s.campaign
      ∧ (surveyScanEnds p n r s).ports = s.ports
      ∧ (surveyScanEnds p n r s).supply = s.supply
      ∧ (surveyScanEnds p n r s).link = s.link
      ∧ (surveyScanEnds p n r s).serial = s.serial := by
  unfold surveyScanEnds
  split <;> simp

@[simp] theorem tellDropped_frame (p : Port) (l : List Order) (s : State) :
    (tellDropped p l s).outside = s.outside
      ∧ (tellDropped p l s).table = s.table
      ∧ (tellDropped p l s).log = s.log
      ∧ (tellDropped p l s).campaign = s.campaign
      ∧ (tellDropped p l s).ports = s.ports
      ∧ (tellDropped p l s).supply = s.supply
      ∧ (tellDropped p l s).link = s.link
      ∧ (tellDropped p l s).serial = s.serial := by
  induction l generalizing s with
  | nil => simp [tellDropped]
  | cons o rest ih =>
    refine ⟨?_, ?_, ?_, ?_, ?_, ?_, ?_, ?_⟩ <;>
      (unfold tellDropped; (repeat' split) <;> simp [ih])

@[simp] theorem makeRoom_frame (p : Port) (s : State) :
    (makeRoom p s).outside = s.outside
      ∧ (makeRoom p s).log = s.log
      ∧ (makeRoom p s).supply = s.supply
      ∧ (makeRoom p s).link = s.link
      ∧ (makeRoom p s).serial = s.serial := by
  refine ⟨?_, ?_, ?_, ?_, ?_⟩ <;>
    (unfold makeRoom; (repeat' split) <;> simp)

@[simp] theorem registering_frame (p : Port) (o : Order) (s : State) :
    (registering p o s).outside = s.outside
      ∧ (registering p o s).log = s.log
      ∧ (registering p o s).survey = s.survey
      ∧ (registering p o s).supply = s.supply
      ∧ (registering p o s).link = s.link
      ∧ (registering p o s).serial = s.serial := by
  unfold registering
  split <;> simp

@[simp] theorem placeOrder_frame (p : Port) (o : Order) (s : State) :
    (placeOrder p o s).outside = s.outside
      ∧ (placeOrder p o s).log = s.log
      ∧ (placeOrder p o s).survey = s.survey
      ∧ (placeOrder p o s).supply = s.supply
      ∧ (placeOrder p o s).serial = s.serial := by
  refine ⟨?_, ?_, ?_, ?_, ?_⟩ <;>
    (unfold placeOrder; dsimp only; (repeat' split) <;> simp)

@[simp] theorem acceptOrder_frame (p : Port) (o : Order) (s : State) :
    (acceptOrder p o s).outside = s.outside
      ∧ (acceptOrder p o s).log = s.log
      ∧ (acceptOrder p o s).supply = s.supply
      ∧ (acceptOrder p o s).serial = s.serial := by
  refine ⟨?_, ?_, ?_, ?_⟩ <;>
    (unfold acceptOrder; (repeat' split) <;> simp)

@[simp] theorem submit_frame (p : Port) (o : Order) (s : State) :
    (submit p o s).outside = s.outside
      ∧ (submit p o s).log = s.log
      ∧ (submit p o s).supply = s.supply
      ∧ (submit p o s).serial = s.serial := by
  unfold submit
  split <;> simp

@[simp] theorem submitAll_frame (p : Port) (l : List Order) (s : State) :
    (submitAll p l s).2.outside = s.outside
      ∧ (submitAll p l s).2.log = s.log
      ∧ (submitAll p l s).2.supply = s.supply
      ∧ (submitAll p l s).2.serial = s.serial := by
  induction l generalizing s with
  | nil => simp [submitAll]
  | cons o rest ih =>
    refine ⟨?_, ?_, ?_, ?_⟩ <;>
      (unfold submitAll; (repeat' split) <;> simp [ih])

@[simp] theorem adoptAttach_frame (p : Port) (i : TableSlot) (n : NetworkId) (u : Purpose) (s : State) :
    (adoptAttach p i n u s).outside = s.outside
      ∧ (adoptAttach p i n u s).table = s.table
      ∧ (adoptAttach p i n u s).log = s.log
      ∧ (adoptAttach p i n u s).campaign = s.campaign
      ∧ (adoptAttach p i n u s).survey = s.survey
      ∧ (adoptAttach p i n u s).supply = s.supply
      ∧ (adoptAttach p i n u s).link = s.link
      ∧ (adoptAttach p i n u s).serial = s.serial := by
  simp [adoptAttach]

@[simp] theorem dropOrders_frame (p : Port) (s : State) :
    (dropOrders p s).outside = s.outside
      ∧ (dropOrders p s).table = s.table
      ∧ (dropOrders p s).log = s.log
      ∧ (dropOrders p s).campaign = s.campaign
      ∧ (dropOrders p s).supply = s.supply
      ∧ (dropOrders p s).link = s.link
      ∧ (dropOrders p s).serial = s.serial := by
  simp [dropOrders]

@[simp] theorem portDown_frame (p : Port) (s : State) :
    (portDown p s).outside = s.outside
      ∧ (portDown p s).log = s.log
      ∧ (portDown p s).supply = s.supply
      ∧ (portDown p s).serial = s.serial := by
  simp [portDown]

@[simp] theorem haltPort_frame (p : Port) (s : State) :
    (haltPort p s).outside = s.outside
      ∧ (haltPort p s).log = s.log
      ∧ (haltPort p s).supply = s.supply
      ∧ (haltPort p s).serial = s.serial := by
  unfold haltPort
  split <;> simp

@[simp] theorem raisePort_frame (k : PortReportKind) (p : Port) (s : State) :
    (raisePort k p s).outside = s.outside
      ∧ (raisePort k p s).table = s.table
      ∧ (raisePort k p s).log = s.log
      ∧ (raisePort k p s).campaign = s.campaign
      ∧ (raisePort k p s).ports = s.ports
      ∧ (raisePort k p s).survey = s.survey
      ∧ (raisePort k p s).supply = s.supply
      ∧ (raisePort k p s).serial = s.serial := by
  simp [raisePort]

@[simp] theorem raiseStandby_frame (b : Standby) (s : State) :
    (raiseStandby b s).outside = s.outside
      ∧ (raiseStandby b s).table = s.table
      ∧ (raiseStandby b s).log = s.log
      ∧ (raiseStandby b s).campaign = s.campaign
      ∧ (raiseStandby b s).ports = s.ports
      ∧ (raiseStandby b s).survey = s.survey
      ∧ (raiseStandby b s).supply = s.supply
      ∧ (raiseStandby b s).serial = s.serial := by
  simp [raiseStandby]

@[simp] theorem createStandby_frame (i : TableSlot) (p : Port) (u : StandbyStatus) (s : State) :
    (createStandby i p u s).outside = s.outside
      ∧ (createStandby i p u s).table = s.table
      ∧ (createStandby i p u s).log = s.log
      ∧ (createStandby i p u s).ports = s.ports
      ∧ (createStandby i p u s).survey = s.survey
      ∧ (createStandby i p u s).supply = s.supply := by
  simp [createStandby]

@[simp] theorem prepareStandby_frame (i : TableSlot) (e : Entry) (s : State) :
    (prepareStandby i e s).outside = s.outside
      ∧ (prepareStandby i e s).log = s.log
      ∧ (prepareStandby i e s).supply = s.supply := by
  refine ⟨?_, ?_, ?_⟩ <;>
    (unfold prepareStandby; dsimp only; (repeat' split) <;> simp)

@[simp] theorem seekStandby_frame (s : State) :
    (seekStandby s).outside = s.outside
      ∧ (seekStandby s).log = s.log
      ∧ (seekStandby s).supply = s.supply := by
  refine ⟨?_, ?_, ?_⟩ <;>
    (unfold seekStandby; (repeat' split) <;> simp)

@[simp] theorem standbyAttached_frame (ok : Bool) (s : State) :
    (standbyAttached ok s).outside = s.outside
      ∧ (standbyAttached ok s).log = s.log
      ∧ (standbyAttached ok s).ports = s.ports
      ∧ (standbyAttached ok s).survey = s.survey
      ∧ (standbyAttached ok s).supply = s.supply
      ∧ (standbyAttached ok s).serial = s.serial := by
  refine ⟨?_, ?_, ?_, ?_, ?_, ?_⟩ <;>
    (unfold standbyAttached; (repeat' split) <;> simp)

@[simp] theorem onTry_frame (f : CurrentTry → CurrentTry) (s : State) :
    (onTry f s).outside = s.outside
      ∧ (onTry f s).table = s.table
      ∧ (onTry f s).log = s.log
      ∧ (onTry f s).ports = s.ports
      ∧ (onTry f s).survey = s.survey
      ∧ (onTry f s).supply = s.supply
      ∧ (onTry f s).link = s.link
      ∧ (onTry f s).serial = s.serial := by
  simp [onTry]

@[simp] theorem abandonWalk_frame (s : State) :
    (abandonWalk s).outside = s.outside
      ∧ (abandonWalk s).table = s.table
      ∧ (abandonWalk s).log = s.log
      ∧ (abandonWalk s).ports = s.ports
      ∧ (abandonWalk s).survey = s.survey
      ∧ (abandonWalk s).supply = s.supply
      ∧ (abandonWalk s).link = s.link
      ∧ (abandonWalk s).serial = s.serial := by
  simp [abandonWalk]

@[simp] theorem leaveTalk_frame (s : State) :
    (leaveTalk s).outside = s.outside
      ∧ (leaveTalk s).log = s.log
      ∧ (leaveTalk s).ports = s.ports
      ∧ (leaveTalk s).survey = s.survey
      ∧ (leaveTalk s).supply = s.supply
      ∧ (leaveTalk s).link = s.link
      ∧ (leaveTalk s).serial = s.serial := by
  unfold leaveTalk
  split <;> simp

@[simp] theorem notePlanFault_frame (k : PlanFaultKind) (i : PlanSlot) (s : State) :
    (notePlanFault k i s).outside = s.outside
      ∧ (notePlanFault k i s).table = s.table
      ∧ (notePlanFault k i s).log = s.log
      ∧ (notePlanFault k i s).ports = s.ports
      ∧ (notePlanFault k i s).survey = s.survey
      ∧ (notePlanFault k i s).supply = s.supply
      ∧ (notePlanFault k i s).link = s.link
      ∧ (notePlanFault k i s).serial = s.serial := by
  simp [notePlanFault]

@[simp] theorem controlStep_frame (i : PlanSlot) (x : PlanStep) (s : State) :
    (controlStep i x s).2.outside = s.outside
      ∧ (controlStep i x s).2.table = s.table
      ∧ (controlStep i x s).2.log = s.log
      ∧ (controlStep i x s).2.ports = s.ports
      ∧ (controlStep i x s).2.survey = s.survey
      ∧ (controlStep i x s).2.supply = s.supply
      ∧ (controlStep i x s).2.link = s.link
      ∧ (controlStep i x s).2.serial = s.serial := by
  refine ⟨?_, ?_, ?_, ?_, ?_, ?_, ?_, ?_⟩ <;>
    (unfold controlStep; (repeat' split) <;> simp)

@[simp] theorem walkSlot_frame (i : PlanSlot) (s : State) :
    (walkSlot i s).2.outside = s.outside
      ∧ (walkSlot i s).2.table = s.table
      ∧ (walkSlot i s).2.log = s.log
      ∧ (walkSlot i s).2.ports = s.ports
      ∧ (walkSlot i s).2.survey = s.survey
      ∧ (walkSlot i s).2.supply = s.supply
      ∧ (walkSlot i s).2.link = s.link
      ∧ (walkSlot i s).2.serial = s.serial := by
  refine ⟨?_, ?_, ?_, ?_, ?_, ?_, ?_, ?_⟩ <;>
    (unfold walkSlot; dsimp only; (repeat' split) <;> simp)

@[simp] theorem failStep_frame (s : State) :
    (failStep s).2.outside = s.outside
      ∧ (failStep s).2.table = s.table
      ∧ (failStep s).2.log = s.log
      ∧ (failStep s).2.ports = s.ports
      ∧ (failStep s).2.survey = s.survey
      ∧ (failStep s).2.supply = s.supply
      ∧ (failStep s).2.link = s.link
      ∧ (failStep s).2.serial = s.serial := by
  unfold failStep
  split <;> simp

@[simp] theorem takeEntry_frame (i : TableSlot) (e : Entry) (s : State) :
    (takeEntry i e s).outside = s.outside
      ∧ (takeEntry i e s).ports = s.ports
      ∧ (takeEntry i e s).survey = s.survey
      ∧ (takeEntry i e s).supply = s.supply
      ∧ (takeEntry i e s).link = s.link
      ∧ (takeEntry i e s).serial = s.serial := by
  simp [takeEntry]

@[simp] theorem dialTry_frame (t : CurrentTry) (p : Port) (s : State) :
    (dialTry t p s).2.outside = s.outside
      ∧ (dialTry t p s).2.log = s.log
      ∧ (dialTry t p s).2.supply = s.supply
      ∧ (dialTry t p s).2.serial = s.serial := by
  refine ⟨?_, ?_, ?_, ?_⟩ <;>
    (unfold dialTry; dsimp only; (repeat' split) <;> simp)

@[simp] theorem preparing_frame (s : State) :
    (preparing s).outside = s.outside
      ∧ (preparing s).table = s.table
      ∧ (preparing s).log = s.log
      ∧ (preparing s).ports = s.ports
      ∧ (preparing s).survey = s.survey
      ∧ (preparing s).supply = s.supply
      ∧ (preparing s).link = s.link
      ∧ (preparing s).serial = s.serial := by
  simp [preparing]

@[simp] theorem bringTry_frame (s : State) :
    (bringTry s).2.outside = s.outside
      ∧ (bringTry s).2.log = s.log
      ∧ (bringTry s).2.supply = s.supply
      ∧ (bringTry s).2.serial = s.serial := by
  refine ⟨?_, ?_, ?_, ?_⟩ <;>
    (unfold bringTry; (repeat' split) <;> simp)

@[simp] theorem createTry_frame (o : TryOrigin) (i : Option PlanSlot) (n : DestNumber) (s : State) :
    (createTry o i n s).outside = s.outside
      ∧ (createTry o i n s).table = s.table
      ∧ (createTry o i n s).log = s.log
      ∧ (createTry o i n s).ports = s.ports
      ∧ (createTry o i n s).survey = s.survey
      ∧ (createTry o i n s).supply = s.supply
      ∧ (createTry o i n s).link = s.link := by
  simp [createTry]

@[simp] theorem beginStepTry_frame (s : State) :
    (beginStepTry s).2.outside = s.outside
      ∧ (beginStepTry s).2.table = s.table
      ∧ (beginStepTry s).2.ports = s.ports
      ∧ (beginStepTry s).2.survey = s.survey
      ∧ (beginStepTry s).2.supply = s.supply := by
  refine ⟨?_, ?_, ?_, ?_, ?_⟩ <;>
    (unfold beginStepTry; (repeat' split) <;> simp)

@[simp] theorem selectEntry_frame (s : State) :
    (selectEntry s).2.outside = s.outside
      ∧ (selectEntry s).2.supply = s.supply
      ∧ (selectEntry s).2.serial = s.serial := by
  refine ⟨?_, ?_, ?_⟩ <;>
    (unfold selectEntry; (repeat' split) <;> simp)

@[simp] theorem endTry_frame (o : TryOutcome) (c : Option Byte) (s : State) :
    (endTry o c s).outside = s.outside
      ∧ (endTry o c s).ports = s.ports
      ∧ (endTry o c s).survey = s.survey
      ∧ (endTry o c s).supply = s.supply
      ∧ (endTry o c s).serial = s.serial := by
  refine ⟨?_, ?_, ?_, ?_, ?_⟩ <;>
    (unfold endTry; (repeat' split) <;> simp)

@[simp] theorem failStepTry_frame (e : Option TableSlot) (s : State) :
    (failStepTry e s).2.outside = s.outside
      ∧ (failStepTry e s).2.table = s.table
      ∧ (failStepTry e s).2.log = s.log
      ∧ (failStepTry e s).2.ports = s.ports
      ∧ (failStepTry e s).2.survey = s.survey
      ∧ (failStepTry e s).2.supply = s.supply
      ∧ (failStepTry e s).2.link = s.link
      ∧ (failStepTry e s).2.serial = s.serial := by
  unfold failStepTry
  split <;> simp

@[simp] theorem countLoss_frame (s : State) :
    (countLoss s).outside = s.outside
      ∧ (countLoss s).table = s.table
      ∧ (countLoss s).log = s.log
      ∧ (countLoss s).ports = s.ports
      ∧ (countLoss s).survey = s.survey
      ∧ (countLoss s).supply = s.supply
      ∧ (countLoss s).link = s.link
      ∧ (countLoss s).serial = s.serial := by
  simp [countLoss]

@[simp] theorem handOver_frame (s : State) :
    (handOver s).2.outside = s.outside
      ∧ (handOver s).2.log = s.log
      ∧ (handOver s).2.ports = s.ports
      ∧ (handOver s).2.survey = s.survey
      ∧ (handOver s).2.supply = s.supply
      ∧ (handOver s).2.serial = s.serial := by
  refine ⟨?_, ?_, ?_, ?_, ?_, ?_⟩ <;>
    (unfold handOver; (repeat' split) <;> simp)

@[simp] theorem beginRecovery_frame (t : CurrentTry) (s : State) :
    (beginRecovery t s).2.outside = s.outside
      ∧ (beginRecovery t s).2.log = s.log
      ∧ (beginRecovery t s).2.ports = s.ports
      ∧ (beginRecovery t s).2.survey = s.survey
      ∧ (beginRecovery t s).2.supply = s.supply
      ∧ (beginRecovery t s).2.serial = s.serial := by
  simp [beginRecovery]

@[simp] theorem afterTry_frame (t : CurrentTry) (o : TryOutcome) (s : State) :
    (afterTry t o s).2.outside = s.outside
      ∧ (afterTry t o s).2.log = s.log
      ∧ (afterTry t o s).2.ports = s.ports
      ∧ (afterTry t o s).2.survey = s.survey
      ∧ (afterTry t o s).2.supply = s.supply
      ∧ (afterTry t o s).2.serial = s.serial := by
  refine ⟨?_, ?_, ?_, ?_, ?_, ?_⟩ <;>
    (unfold afterTry; (repeat' split) <;> simp)

@[simp] theorem finishTry_frame (o : TryOutcome) (c : Option Byte) (s : State) :
    (finishTry o c s).2.outside = s.outside
      ∧ (finishTry o c s).2.ports = s.ports
      ∧ (finishTry o c s).2.survey = s.survey
      ∧ (finishTry o c s).2.supply = s.supply
      ∧ (finishTry o c s).2.serial = s.serial := by
  unfold finishTry
  split <;> simp

@[simp] theorem checkRecovery_frame (h : Option TableSlot) (s : State) :
    (checkRecovery h s).2.outside = s.outside
      ∧ (checkRecovery h s).2.table = s.table
      ∧ (checkRecovery h s).2.log = s.log
      ∧ (checkRecovery h s).2.campaign = s.campaign
      ∧ (checkRecovery h s).2.ports = s.ports
      ∧ (checkRecovery h s).2.survey = s.survey
      ∧ (checkRecovery h s).2.supply = s.supply
      ∧ (checkRecovery h s).2.link = s.link
      ∧ (checkRecovery h s).2.serial = s.serial := by
  unfold checkRecovery
  split <;> simp

@[simp] theorem beginRecoveryTry_frame (h : Option TableSlot) (s : State) :
    (beginRecoveryTry h s).2.outside = s.outside
      ∧ (beginRecoveryTry h s).2.supply = s.supply := by
  refine ⟨?_, ?_⟩ <;>
    (unfold beginRecoveryTry; (repeat' split) <;> simp)

@[simp] theorem failRecovery_frame (h : Option TableSlot) (s : State) :
    (failRecovery h s).2.outside = s.outside
      ∧ (failRecovery h s).2.log = s.log
      ∧ (failRecovery h s).2.ports = s.ports
      ∧ (failRecovery h s).2.survey = s.survey
      ∧ (failRecovery h s).2.supply = s.supply
      ∧ (failRecovery h s).2.link = s.link
      ∧ (failRecovery h s).2.serial = s.serial := by
  refine ⟨?_, ?_, ?_, ?_, ?_, ?_, ?_⟩ <;>
    (unfold failRecovery; (repeat' split) <;> simp)

@[simp] theorem beginLastResort_frame (s : State) :
    (beginLastResort s).2.outside = s.outside
      ∧ (beginLastResort s).2.table = s.table
      ∧ (beginLastResort s).2.log = s.log
      ∧ (beginLastResort s).2.ports = s.ports
      ∧ (beginLastResort s).2.survey = s.survey
      ∧ (beginLastResort s).2.supply = s.supply
      ∧ (beginLastResort s).2.link = s.link
      ∧ (beginLastResort s).2.serial = s.serial := by
  refine ⟨?_, ?_, ?_, ?_, ?_, ?_, ?_, ?_⟩ <;>
    (unfold beginLastResort; dsimp only; (repeat' split) <;> simp)

@[simp] theorem lastResortTry_frame (i : TableSlot) (e : Entry) (s : State) :
    (lastResortTry i e s).2.outside = s.outside
      ∧ (lastResortTry i e s).2.supply = s.supply := by
  unfold lastResortTry
  split <;> simp

@[simp] theorem passPosition_frame (s : State) :
    (passPosition s).2.outside = s.outside
      ∧ (passPosition s).2.supply = s.supply := by
  refine ⟨?_, ?_⟩ <;>
    (unfold passPosition; dsimp only; (repeat' split) <;> simp)

@[simp] theorem stopAwaiting_frame (p : Port) (s : State) :
    (stopAwaiting p s).outside = s.outside
      ∧ (stopAwaiting p s).table = s.table
      ∧ (stopAwaiting p s).log = s.log
      ∧ (stopAwaiting p s).ports = s.ports
      ∧ (stopAwaiting p s).survey = s.survey
      ∧ (stopAwaiting p s).supply = s.supply
      ∧ (stopAwaiting p s).link = s.link
      ∧ (stopAwaiting p s).serial = s.serial := by
  simp [stopAwaiting]

@[simp] theorem resurveyPort_frame (n : Nat) (p : Port) (s : State) :
    (resurveyPort n p s).outside = s.outside
      ∧ (resurveyPort n p s).log = s.log
      ∧ (resurveyPort n p s).supply = s.supply
      ∧ (resurveyPort n p s).serial = s.serial := by
  refine ⟨?_, ?_, ?_, ?_⟩ <;>
    (unfold resurveyPort; dsimp only; (repeat' split) <;> simp)

@[simp] theorem beginResurvey_frame (u : ResurveyUse) (s : State) :
    (beginResurvey u s).2.outside = s.outside
      ∧ (beginResurvey u s).2.log = s.log
      ∧ (beginResurvey u s).2.supply = s.supply := by
  exact ⟨eachPort_frame State.outside (resurveyPort s.serial) (fun _ _ => by simp) _ _,
    eachPort_frame State.log (resurveyPort s.serial) (fun _ _ => by simp) _ _,
    eachPort_frame State.supply (resurveyPort s.serial) (fun _ _ => by simp) _ _⟩

@[simp] theorem completeResurvey_frame (s : State) :
    (completeResurvey s).2.outside = s.outside
      ∧ (completeResurvey s).2.table = s.table
      ∧ (completeResurvey s).2.log = s.log
      ∧ (completeResurvey s).2.ports = s.ports
      ∧ (completeResurvey s).2.survey = s.survey
      ∧ (completeResurvey s).2.supply = s.supply
      ∧ (completeResurvey s).2.link = s.link
      ∧ (completeResurvey s).2.serial = s.serial := by
  refine ⟨?_, ?_, ?_, ?_, ?_, ?_, ?_, ?_⟩ <;>
    (unfold completeResurvey; (repeat' split) <;> simp)

@[simp] theorem keepCallbackPort_frame (p : Option Port) (s : State) :
    (keepCallbackPort p s).outside = s.outside
      ∧ (keepCallbackPort p s).log = s.log
      ∧ (keepCallbackPort p s).ports = s.ports
      ∧ (keepCallbackPort p s).survey = s.survey
      ∧ (keepCallbackPort p s).supply = s.supply
      ∧ (keepCallbackPort p s).link = s.link
      ∧ (keepCallbackPort p s).serial = s.serial := by
  refine ⟨?_, ?_, ?_, ?_, ?_, ?_, ?_⟩ <;>
    (unfold keepCallbackPort; dsimp only; (repeat' split) <;> simp)

@[simp] theorem openWindow_frame (p : Option Port) (s : State) :
    (openWindow p s).2.outside = s.outside
      ∧ (openWindow p s).2.log = s.log
      ∧ (openWindow p s).2.ports = s.ports
      ∧ (openWindow p s).2.survey = s.survey
      ∧ (openWindow p s).2.supply = s.supply
      ∧ (openWindow p s).2.link = s.link
      ∧ (openWindow p s).2.serial = s.serial := by
  refine ⟨?_, ?_, ?_, ?_, ?_, ?_, ?_⟩ <;>
    (unfold openWindow; dsimp only; (repeat' split) <;> simp)

@[simp] theorem closeCampaign_frame (o : CampaignOutcome) (s : State) :
    (closeCampaign o s).outside = s.outside
      ∧ (closeCampaign o s).ports = s.ports
      ∧ (closeCampaign o s).survey = s.survey
      ∧ (closeCampaign o s).supply = s.supply
      ∧ (closeCampaign o s).serial = s.serial := by
  simp [closeCampaign]

@[simp] theorem toIdle_frame (s : State) :
    (toIdle s).outside = s.outside
      ∧ (toIdle s).table = s.table
      ∧ (toIdle s).log = s.log
      ∧ (toIdle s).ports = s.ports
      ∧ (toIdle s).survey = s.survey
      ∧ (toIdle s).link = s.link
      ∧ (toIdle s).serial = s.serial := by
  simp [toIdle]

@[simp] theorem endCampaign_frame (o : CampaignOutcome) (s : State) :
    (endCampaign o s).outside = s.outside
      ∧ (endCampaign o s).ports = s.ports
      ∧ (endCampaign o s).survey = s.survey
      ∧ (endCampaign o s).serial = s.serial := by
  simp [endCampaign]

end Sys2Proof.Machine
end

