-- ==== Sys2Proof/Laws/EventFrames.lean ====
section
/-! SUPPORT. No event of the campaign, the ports, the table, the timers or the supply touches what lies
outside them: one lemma per operation of the event files. -/

namespace Sys2Proof.Machine

@[simp] theorem goStep_frame (g : Go) (s : State) : (goStep g s).2.outside = s.outside := by
  cases g <;> simp [goStep]

@[simp] theorem connectedRoute_of_connected {p : Port} {s : State} (h : (s.port p).call = .connected) :
    connectedRoute p s = some p := by
  simp [connectedRoute, h]

/-- A chain that ends leaves the outside alone. -/
theorem runGo_frame {n : Nat} {g : Go} {s t : State} (h : runGo n g s = some t) : t.outside = s.outside := by
  induction n generalizing g s with
  | zero => simp [runGo] at h
  | succ n ih =>
    unfold runGo at h
    split at h
    · cases h
      rfl
    · exact (ih h).trans (goStep_frame _ _)

theorem runChain_frame {k : StateKey} {g : Go} {s t : State} (h : runChain k g s = some t) :
    t.outside = s.outside := by
  unfold runChain at h
  rw [Option.map_eq_some_iff] at h
  obtain ⟨u, hu, rfl⟩ := h
  simp [runGo_frame hu]

@[simp] theorem closeOldWindow_frame (s : State) :
    (closeOldWindow s).outside = s.outside := by
  unfold closeOldWindow
  (repeat' split) <;> simp

@[simp] theorem freshCampaign_frame (o : CampaignOrigin) (q : Option Phase) (i : Option PlanSlot) (s : State) :
    (freshCampaign o q i s).outside = s.outside := by
  simp [freshCampaign]

theorem startCampaign_frame (o : CampaignOrigin) {s t : State} (h : startCampaign o s = some t) : t.outside = s.outside := by
  unfold startCampaign at h
  grind [runChain_frame, freshCampaign_frame, closeOldWindow_frame, Option.map_eq_some_iff, Option.bind_eq_some_iff, State.onPort_outside, State.onConfig, State.onCampaign_outside, State.onSurvey_outside]

theorem takePress_frame {s t : State} (h : takePress s = some t) : t.outside = s.outside := by
  unfold takePress at h
  grind [startCampaign_frame, raise_frame, Option.map_eq_some_iff, Option.bind_eq_some_iff, State.onPort_outside, State.onConfig, State.onCampaign_outside, State.onSurvey_outside]

@[simp] theorem releaseTry_frame (r : ReleaseReason) (s : State) :
    (releaseTry r s).outside = s.outside := by
  unfold releaseTry
  (repeat' split) <;> simp

@[simp] theorem ringExpires_frame (s : State) :
    (ringExpires s).outside = s.outside := by
  simp [ringExpires]

@[simp] theorem takeEndCall_frame (s : State) :
    (takeEndCall s).outside = s.outside := by
  unfold takeEndCall
  (repeat' split) <;> simp

theorem waitExpires_frame {s t : State} (h : waitExpires s = some t) : t.outside = s.outside := by
  unfold waitExpires at h
  grind [runChain_frame, Option.map_eq_some_iff, Option.bind_eq_some_iff, State.onPort_outside, State.onConfig, State.onCampaign_outside, State.onSurvey_outside]

@[simp] theorem windowExpires_frame (s : State) :
    (windowExpires s).outside = s.outside := by
  simp [windowExpires]

@[simp] theorem tryAlerting_frame (p : Port) (s : State) :
    (tryAlerting p s).outside = s.outside := by
  unfold tryAlerting
  (repeat' split) <;> simp

@[simp] theorem sendDataOf_frame (t : CurrentTry) (p : Port) (s : State) :
    (sendDataOf t p s).outside = s.outside := by
  unfold sendDataOf
  dsimp only
  (repeat' split) <;> simp

@[simp] theorem endRecovery_frame (s : State) :
    (endRecovery s).outside = s.outside ∧ (endRecovery s).link = s.link := by
  unfold endRecovery
  (repeat' split) <;> simp

@[simp] theorem connectTry_frame (i : TableSlot) (p : Port) (s : State) :
    (connectTry i p s).outside = s.outside ∧ (connectTry i p s).link = s.link := by
  simp [connectTry]

@[simp] theorem tryConnected_frame (p : Port) (s : State) :
    (tryConnected p s).outside = s.outside := by
  unfold tryConnected
  (repeat' split) <;> simp

theorem tryCallEnded_frame (c : EndCause) (m : Byte) {s t : State} (h : tryCallEnded c m s = some t) : t.outside = s.outside := by
  unfold tryCallEnded at h
  grind [runChain_frame, Option.map_eq_some_iff, Option.bind_eq_some_iff, State.onPort_outside, State.onConfig, State.onCampaign_outside, State.onSurvey_outside]

theorem tryAttached_frame (k : Bool) (c : Byte) {s t : State} (h : tryAttached k c s = some t) : t.outside = s.outside := by
  unfold tryAttached at h
  grind [runChain_frame, dialTry_frame, Option.map_eq_some_iff, Option.bind_eq_some_iff, State.onPort_outside, State.onConfig, State.onCampaign_outside, State.onSurvey_outside]

theorem takeAttached_frame (u : Purpose) (k : Bool) (c : Byte) {s t : State} (h : takeAttached u k c s = some t) : t.outside = s.outside := by
  unfold takeAttached at h
  grind [tryAttached_frame, standbyAttached_frame, Option.map_eq_some_iff, Option.bind_eq_some_iff, State.onPort_outside, State.onConfig, State.onCampaign_outside, State.onSurvey_outside]

@[simp] theorem takeDataResult_frame (n : Nat) (k : Bool) (s : State) :
    (takeDataResult n k s).outside = s.outside ∧ (takeDataResult n k s).link = s.link := by
  simp [takeDataResult]

@[simp] theorem answerTry_frame (o : TryOrigin) (n : Nat) (p : Port) (s : State) :
    (answerTry o n p s).outside = s.outside ∧ (answerTry o n p s).link = s.link := by
  refine ⟨?_, ?_⟩ <;>
    (unfold answerTry; dsimp only; (repeat' split) <;> simp)

@[simp] theorem answerContext_frame (s : State) :
    (answerContext s).outside = s.outside := by
  unfold answerContext
  (repeat' split) <;> simp

@[simp] theorem takeOffer_frame (p : Port) (d : Option (List Byte)) (s : State) :
    (takeOffer p d s).outside = s.outside := by
  unfold takeOffer
  (repeat' split) <;> simp

theorem leaveAwaited_frame (p : Port) {s t : State} (h : leaveAwaited p s = some t) : t.outside = s.outside := by
  unfold leaveAwaited at h
  grind [stopAwaiting_frame, runChain_frame, Option.map_eq_some_iff, Option.bind_eq_some_iff, State.onPort_outside, State.onConfig, State.onCampaign_outside, State.onSurvey_outside]

theorem resurveyScanned_frame (n : Nat) (p : Port) {s t : State} (h : resurveyScanned n p s = some t) : t.outside = s.outside := by
  unfold resurveyScanned at h
  grind [leaveAwaited_frame, Option.map_eq_some_iff, Option.bind_eq_some_iff, State.onPort_outside, State.onConfig, State.onCampaign_outside, State.onSurvey_outside]

theorem endLostTry_frame (p : Port) {s t : State} (h : endLostTry p s = some t) : t.outside = s.outside := by
  unfold endLostTry at h
  grind [runChain_frame, Option.map_eq_some_iff, Option.bind_eq_some_iff, State.onPort_outside, State.onConfig, State.onCampaign_outside, State.onSurvey_outside]

theorem campaignPortLost_frame (p : Port) {s t : State} (h : campaignPortLost p s = some t) : t.outside = s.outside := by
  unfold campaignPortLost at h
  grind [endLostTry_frame, clearStandby_frame, leaveAwaited_frame, dropCallbackPort_frame, Option.map_eq_some_iff, Option.bind_eq_some_iff, State.onPort_outside, State.onConfig, State.onCampaign_outside, State.onSurvey_outside]

@[simp] theorem takeMode_frame (s : State) :
    (takeMode s).outside = s.outside := by
  unfold takeMode
  dsimp only
  (repeat' split) <;> simp

@[simp] theorem sampleNetwork_frame (p : Port) (m : Sample) (s : State) :
    (sampleNetwork p m s).outside = s.outside := by
  unfold sampleNetwork
  (repeat' split) <;> simp

@[simp] theorem samplePass_frame (p : Port) (l : List Sample) (s : State) :
    (samplePass p l s).outside = s.outside := by
  induction l generalizing s with
  | nil => rfl
  | cons m rest ih => simp [samplePass, ih]

@[simp] theorem recordPass_frame (p : Port) (k : List NetworkId) (l : List Sample) (s : State) :
    (recordPass p k l s).outside = s.outside := by
  induction l generalizing s k with
  | nil => rfl
  | cons m rest ih =>
    unfold recordPass
    split <;> simp [ih]

@[simp] theorem losePass_frame (p : Port) (l : List Sample) (s : State) :
    (losePass p l s).outside = s.outside := by
  exact eachSlot_frame State.outside _ (fun _ _ => by simp) _ _

@[simp] theorem applyScan_frame (p : Port) (l : List Sample) (s : State) :
    (applyScan p l s).outside = s.outside := by
  simp [applyScan]

@[simp] theorem applyServing_frame (p : Port) (l q : Byte) (s : State) :
    (applyServing p l q s).outside = s.outside := by
  unfold applyServing
  (repeat' split) <;> simp

theorem enterFault_frame (p : Port) (d : Bool) (c : FaultCause) {s t : State} (h : enterFault p d c s = some t) : t.outside = s.outside := by
  unfold enterFault at h
  grind [portDown_frame, losePort_frame, campaignPortLost_frame, raisePort_frame, Option.map_eq_some_iff, Option.bind_eq_some_iff, State.onPort_outside, State.onConfig, State.onCampaign_outside, State.onSurvey_outside]

theorem wakeTimesOut_frame (p : Port) {s t : State} (h : wakeTimesOut p s = some t) : t.outside = s.outside := by
  unfold wakeTimesOut at h
  grind [enterFault_frame, Option.map_eq_some_iff, Option.bind_eq_some_iff, State.onPort_outside, State.onConfig, State.onCampaign_outside, State.onSurvey_outside]

@[simp] theorem sleepEnds_frame (p : Port) (s : State) :
    (sleepEnds p s).outside = s.outside := by
  unfold sleepEnds
  dsimp only
  (repeat' split) <;> simp

@[simp] theorem sleepTimesOut_frame (p : Port) (s : State) :
    (sleepTimesOut p s).outside = s.outside := by
  simp [sleepTimesOut]

@[simp] theorem attachmentAfter_frame (p : Port) (a : Attachment) (s : State) :
    (attachmentAfter p a s).outside = s.outside ∧ (attachmentAfter p a s).link = s.link := by
  unfold attachmentAfter
  (repeat' split) <;> simp

@[simp] theorem wakeCompleted_frame (p : Port) (k : OrderKind) (s : State) :
    (wakeCompleted p k s).outside = s.outside := by
  unfold wakeCompleted
  (repeat' split) <;> simp

theorem scanCompleted_frame (p : Port) (o : Order) (l : List Sample) {s t : State} (h : scanCompleted p o l s = some t) : t.outside = s.outside := by
  unfold scanCompleted at h
  grind [applyScan_frame, surveyScanEnds_frame, resurveyScanned_frame, Option.map_eq_some_iff, Option.bind_eq_some_iff, State.onPort_outside, State.onConfig, State.onCampaign_outside, State.onSurvey_outside]

theorem attachCompleted_frame (p : Port) (o : Order) (k : Bool) (c : Byte) {s t : State} (h : attachCompleted p o k c s = some t) : t.outside = s.outside := by
  unfold attachCompleted at h
  grind [attachmentAfter_frame, takeAttached_frame, Option.map_eq_some_iff, Option.bind_eq_some_iff, State.onPort_outside, State.onConfig, State.onCampaign_outside, State.onSurvey_outside]

@[simp] theorem clearCallOrders_frame (p : Port) (s : State) :
    (clearCallOrders p s).outside = s.outside ∧ (clearCallOrders p s).link = s.link := by
  simp [clearCallOrders]

theorem callEndCompleted_frame (p : Port) (o : Order) (c : EndCause) (m : Byte) {s t : State} (h : callEndCompleted p o c m s = some t) : t.outside = s.outside := by
  unfold callEndCompleted at h
  grind [setCall_frame, clearCallOrders_frame, tryCallEnded_frame, reportChange_frame, Option.map_eq_some_iff, Option.bind_eq_some_iff, State.onPort_outside, State.onConfig, State.onCampaign_outside, State.onSurvey_outside]

theorem completion_frame (p : Port) (o : Order) (n : Notice) {s t : State} (h : completion p o n s = some t) : t.outside = s.outside := by
  unfold completion at h
  grind [wakeCompleted_frame, sleepEnds_frame, scanCompleted_frame, attachCompleted_frame, attachmentAfter_frame, setCall_frame, tryAlerting_frame, tryConnected_frame, callEndCompleted_frame, takeDataResult_frame, Option.map_eq_some_iff, Option.bind_eq_some_iff, State.onPort_outside, State.onConfig, State.onCampaign_outside, State.onSurvey_outside]

@[simp] theorem sendFollowing_frame (p : Port) (s : State) :
    (sendFollowing p s).outside = s.outside
      ∧ (sendFollowing p s).log = s.log
      ∧ (sendFollowing p s).survey = s.survey
      ∧ (sendFollowing p s).supply = s.supply
      ∧ (sendFollowing p s).serial = s.serial := by
  simp [sendFollowing]

theorem completeOrder_frame (p : Port) (o : Order) (n : Notice) {s t : State} (h : completeOrder p o n s = some t) : t.outside = s.outside := by
  unfold completeOrder at h
  grind [completion_frame, sendFollowing_frame, Option.map_eq_some_iff, Option.bind_eq_some_iff, State.onPort_outside, State.onConfig, State.onCampaign_outside, State.onSurvey_outside]

theorem unaskedCallEnded_frame (p : Port) (c : EndCause) (m : Byte) {s t : State} (h : unaskedCallEnded p c m s = some t) : t.outside = s.outside := by
  unfold unaskedCallEnded at h
  grind [reportChange_frame, clearCallOrders_frame, setCall_frame, tryCallEnded_frame, Option.map_eq_some_iff, Option.bind_eq_some_iff, State.onPort_outside, State.onConfig, State.onCampaign_outside, State.onSurvey_outside]

@[simp] theorem unaskedIncoming_frame (p : Port) (d : Option (List Byte)) (s : State) :
    (unaskedIncoming p d s).outside = s.outside := by
  unfold unaskedIncoming
  dsimp only
  (repeat' split) <;> simp

@[simp] theorem unaskedServing_frame (p : Port) (l q : Byte) (s : State) :
    (unaskedServing p l q s).outside = s.outside := by
  unfold unaskedServing
  (repeat' split) <;> simp

@[simp] theorem registrationLost_frame (p : Port) (s : State) :
    (registrationLost p s).outside = s.outside := by
  unfold registrationLost
  (repeat' split) <;> simp

theorem unaskedNotice_frame (p : Port) (n : Notice) {s t : State} (h : unaskedNotice p n s = some t) : t.outside = s.outside := by
  unfold unaskedNotice at h
  grind [unaskedCallEnded_frame, tryAlerting_frame, tryConnected_frame, setCall_frame, unaskedIncoming_frame, unaskedServing_frame, enterFault_frame, registrationLost_frame, Option.map_eq_some_iff, Option.bind_eq_some_iff, State.onPort_outside, State.onConfig, State.onCampaign_outside, State.onSurvey_outside]

theorem takeNotice_frame (p : Port) (n : Notice) {s t : State} (h : takeNotice p n s = some t) : t.outside = s.outside := by
  unfold takeNotice at h
  grind [completeOrder_frame, unaskedNotice_frame, Option.map_eq_some_iff, Option.bind_eq_some_iff, State.onPort_outside, State.onConfig, State.onCampaign_outside, State.onSurvey_outside]

@[simp] theorem restartPort_frame (p : Port) (s : State) :
    (restartPort p s).outside = s.outside := by
  simp [restartPort]

@[simp] theorem policySleep_frame (p : Port) (s : State) :
    (policySleep p s).outside = s.outside := by
  simp [policySleep]

@[simp] theorem keepWarmWake_frame (p : Port) (s : State) :
    (keepWarmWake p s).outside = s.outside := by
  simp [keepWarmWake]

@[simp] theorem surveyTick_frame (s : State) :
    (surveyTick s).outside = s.outside ∧ (surveyTick s).link = s.link := by
  unfold surveyTick
  (repeat' split) <;> simp

@[simp] theorem periodEnds_frame (s : State) :
    (periodEnds s).outside = s.outside := by
  simp [periodEnds]

@[simp] theorem recordMatch_frame (p : Port) (r : MatchRecord) (s : State) :
    (recordMatch p r s).outside = s.outside ∧ (recordMatch p r s).link = s.link := by
  simp [recordMatch]

@[simp] theorem compareMatches_frame (p : Port) (s : State) :
    (compareMatches p s).outside = s.outside := by
  unfold compareMatches
  dsimp only
  (repeat' split) <;> simp

@[simp] theorem takeMatch_frame (p : Port) (s : State) :
    (takeMatch p s).outside = s.outside := by
  unfold takeMatch
  split <;> simp

@[simp] theorem takeMatch_of_not_due {p : Port} {s : State} (h : s.survey.matchDue.get p = false) :
    takeMatch p s = s := by
  simp [takeMatch, h]

/-- With nothing of the last tick's step left, finishing it changes nothing (log 31). -/
theorem finishStep_of_nothing_due {s : State} (h : s.survey.periodEndDue = false)
    (hm : ∀ p, s.survey.matchDue.get p = false) : finishStep s = s := by
  simp [finishStep, h, portList, eachPort, hm]

@[simp] theorem finishStep_frame (s : State) :
    (finishStep s).outside = s.outside := by
  unfold finishStep
  rw [eachPort_frame State.outside _ (fun _ _ => by simp)]
  split <;> simp

@[simp] theorem holdCounter_frame (s : State) :
    (holdCounter s).outside = s.outside ∧ (holdCounter s).link = s.link := by
  simp [holdCounter]

@[simp] theorem holdByHost_frame (s : State) :
    (holdByHost s).outside = s.outside := by
  simp [holdByHost]

@[simp] theorem releaseByHost_frame (s : State) :
    (releaseByHost s).outside = s.outside ∧ (releaseByHost s).link = s.link := by
  simp [releaseByHost]

@[simp] theorem holdByHalt_frame (s : State) :
    (holdByHalt s).outside = s.outside ∧ (holdByHalt s).link = s.link := by
  simp [holdByHalt]

@[simp] theorem surveyPort_frame (v : PerPort Bool) (p : Port) (s : State) :
    (surveyPort v p s).outside = s.outside := by
  unfold surveyPort
  (repeat' split) <;> simp

@[simp] theorem surveyNamed_frame (v : PerPort Bool) (s : State) :
    (surveyNamed v s).outside = s.outside := by
  exact eachPort_frame State.outside _ (fun _ _ => by simp) _ _

@[simp] theorem conversionStarts_frame (s : State) :
    (conversionStarts s).outside = s.outside ∧ (conversionStarts s).link = s.link := by
  simp [conversionStarts]

/-- With no conversion start due, none is taken (log 31). -/
theorem takeStart_of_not_due {s : State} (h : s.supply.interval ≠ 0) : takeStart s = s := by
  simp [takeStart, h]

@[simp] theorem takeStart_frame (s : State) :
    (takeStart s).outside = s.outside ∧ (takeStart s).link = s.link := by
  unfold takeStart
  split <;> simp

@[simp] theorem enterHalt_frame (s : State) :
    (enterHalt s).outside = s.outside := by
  simp [enterHalt, eachPort_frame State.outside haltPort (fun _ _ => by simp)]

@[simp] theorem haltIfCutoff_frame (s : State) :
    (haltIfCutoff s).outside = s.outside := by
  unfold haltIfCutoff
  (repeat' split) <;> simp

@[simp] theorem changeMode_frame (m : SupplyMode) (s : State) :
    (changeMode m s).outside = s.outside := by
  unfold changeMode
  (repeat' split) <;> simp

@[simp] theorem storeConversion_frame (v : Nat) (s : State) :
    (storeConversion v s).outside = s.outside ∧ (storeConversion v s).link = s.link := by
  simp [storeConversion]

@[simp] theorem takeIdleNotice_frame (s : State) :
    (takeIdleNotice s).outside = s.outside := by
  simp [takeIdleNotice]

@[simp] theorem freeAged_frame (i : TableSlot) (s : State) :
    (freeAged i s).outside = s.outside := by
  simp [freeAged]

end Sys2Proof.Machine
end

