-- ==== Sys2Proof/Laws/Payloads.lean ====
section
/-! SUPPORT. Each field of a payload is read back from the bytes it is sent as (10 section 10.7). -/

namespace Sys2Proof.Machine

@[simp] theorem wordOf_bytes (w : Word) : wordOf (w.extractLsb' 8 8) (w.extractLsb' 0 8) = w := by
  apply BitVec.eq_of_getLsbD_eq
  intro i hi
  simp only [wordOf, BitVec.getLsbD_append, BitVec.getLsbD_extractLsb']
  grind

@[simp] theorem code24Of_bytes (c : Code24) :
    code24Of (c.extractLsb' 16 8) (c.extractLsb' 8 8) (c.extractLsb' 0 8) = c := by
  apply BitVec.eq_of_getLsbD_eq
  intro i hi
  simp only [code24Of, BitVec.getLsbD_append, BitVec.getLsbD_extractLsb']
  grind

theorem byteOf_toNat (n : Nat) (h : n < 256) : (byteOf n).toNat = n := by
  simp [byteOf, Nat.mod_eq_of_lt h]

theorem optWord_bytes (w : Option Word) (rest : List Byte) :
    optWord (optWordBytes w ++ rest) = some (w, rest) := by
  cases w <;> simp [optWordBytes, wordBytes, optWord, byteSet]

theorem optByte_bytes (b : Option Byte) (rest : List Byte) :
    optByte (optByteBytes b ++ rest) = some (b, rest) := by
  cases b <;> simp [optByteBytes, optByte, byteSet]

theorem takeText_bytes (t rest : List Byte) (h : t.length < 256) :
    takeText (textBytes t ++ rest) = some (t, rest) := by
  simp [textBytes, takeText, byteOf_toNat _ h]

theorem takeSteps_bytes (records : List StepBytes) (rest : List Byte) :
    takeSteps records.length (records.flatMap stepBytesList ++ rest) = some records := by
  induction records with
  | nil => rfl
  | cons r records ih => simp [stepBytesList, takeSteps, ih]

theorem takePreferences_bytes (records : List PreferenceBytes) (rest : List Byte) :
    takePreferences records.length (records.flatMap preferenceBytesList ++ rest) = some records := by
  induction records with
  | nil => rfl
  | cons r records ih => simp [preferenceBytesList, code24Bytes, takePreferences, ih]

end Sys2Proof.Machine
end

