-- ==== Sys2Proof/Laws/Raise.lean ====
section
/-! SUPPORT. A report moves the host link alone, so it can be taken out of a state's other changes. -/

namespace Sys2Proof.Machine

/-- The link after a report under a mask. -/
def Link.raised (mask : ReportSet) (r : Report) (l : Link) : Link :=
  match r.cls with
  | none => { l with outbound := l.outbound ++ [.report r] }
  | some c =>
    if mask.has c && decide (l.outbound.length ≤ 6) then { l with outbound := l.outbound ++ [.report r] }
    else { l with pendingSet := l.pendingSet.insert c }

/-- Everything a report does. -/
theorem raise_eq (r : Report) (s : State) : raise r s = { s with link := s.link.raised s.cfg.mask r } := by
  unfold raise Link.raised
  cases r.cls with
  | none => rfl
  | some c => dsimp only; split <;> rfl

/-- Everything a change of state, phase or route does to the state: one STATE report, or none. -/
theorem reportChange_eq (key : StateKey) (s : State) :
    reportChange key s =
      if stateKey s.campaign = key ∨ s.campaign.state = .idle then s
      else raise (.state s.campaign.state s.campaign.phase s.campaign.origin
        (s.campaign.attempt.bind CurrentTry.number) s.campaign.route none) s := by
  simp [reportChange, reportState]

end Sys2Proof.Machine
end

