-- ==== Sys2Proof/Laws/Reports.lean ====
section
/-! SUPPORT. Reports only join the tail of the outbound queue, and only while it holds 6 frames or fewer
(10 R185): one lemma per operation that raises any. -/

namespace Sys2Proof.Machine

/-- Reports have joined the tail: the frames before are kept, and the queue passes 7 only if it stood there. -/
structure Link.Grows (l m : Link) : Prop where
  kept : l.outbound <+: m.outbound
  room : m.outbound.length ≤ max 7 l.outbound.length

theorem Link.Grows.refl (l : Link) : l.Grows l := ⟨List.prefix_refl _, by omega⟩

theorem Link.Grows.trans {a b c : Link} (h : a.Grows b) (k : b.Grows c) : a.Grows c :=
  ⟨h.kept.trans k.kept, by have := h.room; have := k.room; omega⟩

/-- Every report but START is placed by R185's test. -/
theorem raise_grows (r : Report) (s : State) (h : r.cls ≠ none) : s.link.Grows (raise r s).link := by
  unfold raise
  split
  · contradiction
  · split
    · rename_i room
      simp only [Bool.and_eq_true, decide_eq_true_eq] at room
      exact ⟨by simp, by simp; omega⟩
    · exact ⟨by simp, by simp⟩

theorem eachSlot_grows (f : TableSlot → State → State) (hf : ∀ i (s : State), s.link.Grows (f i s).link)
    (l : List TableSlot) (s : State) : s.link.Grows (eachSlot f l s).link := by
  induction l generalizing s with
  | nil => exact .refl _
  | cons i rest ih => exact (hf i s).trans (ih _)

theorem eachPort_grows (f : Port → State → State) (hf : ∀ p (s : State), s.link.Grows (f p s).link)
    (l : List Port) (s : State) : s.link.Grows (eachPort f l s).link := by
  induction l generalizing s with
  | nil => exact .refl _
  | cons p rest ih => exact (hf p s).trans (ih _)

theorem freeSlot_grows (i : TableSlot) (c : FreeCause) (s : State) : s.link.Grows (freeSlot i c s).link := by
  unfold freeSlot
  grind [raise_grows, Link.Grows.refl, Link.Grows.trans, Report.cls, State.onTable_link, State.onLog_link, State.onCampaign_link, State.onPort_link, State.onSurvey_link, State.onSupply_link, State.bumpSerial_link, State.onConfig_link]

theorem createEntry_grows (i : TableSlot) (p : Port) (m : Sample) (s : State) : s.link.Grows (createEntry i p m s).link := by
  unfold createEntry
  grind [raise_grows, Link.Grows.refl, Link.Grows.trans, Report.cls, State.onTable_link, State.onLog_link, State.onCampaign_link, State.onPort_link, State.onSurvey_link, State.onSupply_link, State.bumpSerial_link, State.onConfig_link]

theorem recordNew_grows (p : Port) (m : Sample) (s : State) : s.link.Grows (recordNew p m s).link := by
  unfold recordNew
  grind [raise_grows, createEntry_grows, freeSlot_grows, Link.Grows.refl, Link.Grows.trans, Report.cls, State.onTable_link, State.onLog_link, State.onCampaign_link, State.onPort_link, State.onSurvey_link, State.onSupply_link, State.bumpSerial_link, State.onConfig_link]

theorem sampleSlot_grows (i : TableSlot) (m : Sample) (s : State) : s.link.Grows (sampleSlot i m s).link := by
  unfold sampleSlot
  grind [raise_grows, Link.Grows.refl, Link.Grows.trans, Report.cls, State.onTable_link, State.onLog_link, State.onCampaign_link, State.onPort_link, State.onSurvey_link, State.onSupply_link, State.bumpSerial_link, State.onConfig_link]

theorem loseEntry_grows (i : TableSlot) (s : State) : s.link.Grows (loseEntry i s).link := by
  unfold loseEntry
  grind [raise_grows, Link.Grows.refl, Link.Grows.trans, Report.cls, State.onTable_link, State.onLog_link, State.onCampaign_link, State.onPort_link, State.onSurvey_link, State.onSupply_link, State.bumpSerial_link, State.onConfig_link]

theorem losePort_grows (p : Port) (s : State) : s.link.Grows (losePort p s).link := by
  exact eachSlot_grows _ (fun _ _ => loseEntry_grows _ _) _ _

theorem writeRecord_grows (r : AttemptRecord) (s : State) : s.link.Grows (writeRecord r s).link := by
  unfold writeRecord
  grind [raise_grows, Link.Grows.refl, Link.Grows.trans, Report.cls, State.onTable_link, State.onLog_link, State.onCampaign_link, State.onPort_link, State.onSurvey_link, State.onSupply_link, State.bumpSerial_link, State.onConfig_link]

theorem writeStepRecord_grows (d : DialStep) (o : TryOutcome) (s : State) : s.link.Grows (writeStepRecord d o s).link := by
  unfold writeStepRecord
  grind [writeRecord_grows, useNumber_frame, Link.Grows.refl, Link.Grows.trans, Report.cls, State.onTable_link, State.onLog_link, State.onCampaign_link, State.onPort_link, State.onSurvey_link, State.onSupply_link, State.bumpSerial_link, State.onConfig_link]

theorem writeSummary_grows (o : CampaignOutcome) (s : State) : s.link.Grows (writeSummary o s).link := by
  unfold writeSummary
  grind [raise_grows, Link.Grows.refl, Link.Grows.trans, Report.cls, State.onTable_link, State.onLog_link, State.onCampaign_link, State.onPort_link, State.onSurvey_link, State.onSupply_link, State.bumpSerial_link, State.onConfig_link]

theorem reportState_grows (s : State) : s.link.Grows (reportState s).link := by
  unfold reportState
  grind [raise_grows, Link.Grows.refl, Link.Grows.trans, Report.cls, State.onTable_link, State.onLog_link, State.onCampaign_link, State.onPort_link, State.onSurvey_link, State.onSupply_link, State.bumpSerial_link, State.onConfig_link]

theorem reportChange_grows (k : StateKey) (s : State) : s.link.Grows (reportChange k s).link := by
  unfold reportChange
  grind [reportState_grows, Link.Grows.refl, Link.Grows.trans, Report.cls, State.onTable_link, State.onLog_link, State.onCampaign_link, State.onPort_link, State.onSurvey_link, State.onSupply_link, State.bumpSerial_link, State.onConfig_link]

theorem clearStandby_grows (r : StandbyReason) (s : State) : s.link.Grows (clearStandby r s).link := by
  unfold clearStandby
  grind [raise_grows, withdrawHold_frame, Link.Grows.refl, Link.Grows.trans, Report.cls, State.onTable_link, State.onLog_link, State.onCampaign_link, State.onPort_link, State.onSurvey_link, State.onSupply_link, State.bumpSerial_link, State.onConfig_link]

theorem loseAndTell_grows (i : TableSlot) (s : State) : s.link.Grows (loseAndTell i s).link := by
  unfold loseAndTell
  grind [loseEntry_grows, clearStandby_grows, Link.Grows.refl, Link.Grows.trans, Report.cls, State.onTable_link, State.onLog_link, State.onCampaign_link, State.onPort_link, State.onSurvey_link, State.onSupply_link, State.bumpSerial_link, State.onConfig_link]

theorem setCall_grows (p : Port) (n : CallState) (s : State) : s.link.Grows (setCall p n s).link := by
  unfold setCall
  grind [clearStandby_grows, Link.Grows.refl, Link.Grows.trans, Report.cls, State.onTable_link, State.onLog_link, State.onCampaign_link, State.onPort_link, State.onSurvey_link, State.onSupply_link, State.bumpSerial_link, State.onConfig_link]

theorem sendOrder_grows (p : Port) (o : Order) (s : State) : s.link.Grows (sendOrder p o s).link := by
  unfold sendOrder
  grind [setAttachment_frame, setCall_grows, Link.Grows.refl, Link.Grows.trans, Report.cls, State.onTable_link, State.onLog_link, State.onCampaign_link, State.onPort_link, State.onSurvey_link, State.onSupply_link, State.bumpSerial_link, State.onConfig_link]

theorem sendNext_grows (p : Port) (s : State) : s.link.Grows (sendNext p s).link := by
  unfold sendNext
  grind [sendOrder_grows, Link.Grows.refl, Link.Grows.trans, Report.cls, State.onTable_link, State.onLog_link, State.onCampaign_link, State.onPort_link, State.onSurvey_link, State.onSupply_link, State.bumpSerial_link, State.onConfig_link]

theorem sendWake_grows (p : Port) (r : WakeReason) (s : State) : s.link.Grows (sendWake p r s).link := by
  unfold sendWake
  grind [sendOrder_grows, Link.Grows.refl, Link.Grows.trans, Report.cls, State.onTable_link, State.onLog_link, State.onCampaign_link, State.onPort_link, State.onSurvey_link, State.onSupply_link, State.bumpSerial_link, State.onConfig_link]

theorem placeOrder_grows (p : Port) (o : Order) (s : State) : s.link.Grows (placeOrder p o s).link := by
  unfold placeOrder
  grind [registering_frame, sendNext_grows, Link.Grows.refl, Link.Grows.trans, Report.cls, State.onTable_link, State.onLog_link, State.onCampaign_link, State.onPort_link, State.onSurvey_link, State.onSupply_link, State.bumpSerial_link, State.onConfig_link]

theorem acceptOrder_grows (p : Port) (o : Order) (s : State) : s.link.Grows (acceptOrder p o s).link := by
  unfold acceptOrder
  grind [placeOrder_grows, sendWake_grows, makeRoom_frame, Link.Grows.refl, Link.Grows.trans, Report.cls, State.onTable_link, State.onLog_link, State.onCampaign_link, State.onPort_link, State.onSurvey_link, State.onSupply_link, State.bumpSerial_link, State.onConfig_link]

theorem submit_grows (p : Port) (o : Order) (s : State) : s.link.Grows (submit p o s).link := by
  unfold submit
  grind [acceptOrder_grows, Link.Grows.refl, Link.Grows.trans, Report.cls, State.onTable_link, State.onLog_link, State.onCampaign_link, State.onPort_link, State.onSurvey_link, State.onSupply_link, State.bumpSerial_link, State.onConfig_link]

theorem submitAll_grows (p : Port) (l : List Order) (s : State) : s.link.Grows (submitAll p l s).2.link := by
  induction l generalizing s with
  | nil => exact .refl _
  | cons m rest ih =>
    unfold submitAll
    grind [acceptOrder_grows, Link.Grows.refl, Link.Grows.trans, Report.cls, State.onTable_link, State.onLog_link, State.onCampaign_link, State.onPort_link, State.onSurvey_link, State.onSupply_link, State.bumpSerial_link, State.onConfig_link]

theorem portDown_grows (p : Port) (s : State) : s.link.Grows (portDown p s).link := by
  unfold portDown
  grind [setAttachment_frame, setCall_grows, dropOrders_frame, Link.Grows.refl, Link.Grows.trans, Report.cls, State.onTable_link, State.onLog_link, State.onCampaign_link, State.onPort_link, State.onSurvey_link, State.onSupply_link, State.bumpSerial_link, State.onConfig_link]

theorem haltPort_grows (p : Port) (s : State) : s.link.Grows (haltPort p s).link := by
  unfold haltPort
  grind [sendOrder_grows, setCall_grows, dropOrders_frame, setAttachment_frame, tellDropped_frame, Link.Grows.refl, Link.Grows.trans, Report.cls, State.onTable_link, State.onLog_link, State.onCampaign_link, State.onPort_link, State.onSurvey_link, State.onSupply_link, State.bumpSerial_link, State.onConfig_link]

theorem raisePort_grows (k : PortReportKind) (p : Port) (s : State) : s.link.Grows (raisePort k p s).link := by
  unfold raisePort
  grind [raise_grows, Link.Grows.refl, Link.Grows.trans, Report.cls, State.onTable_link, State.onLog_link, State.onCampaign_link, State.onPort_link, State.onSurvey_link, State.onSupply_link, State.bumpSerial_link, State.onConfig_link]

theorem raiseStandby_grows (b : Standby) (s : State) : s.link.Grows (raiseStandby b s).link := by
  unfold raiseStandby
  grind [raise_grows, Link.Grows.refl, Link.Grows.trans, Report.cls, State.onTable_link, State.onLog_link, State.onCampaign_link, State.onPort_link, State.onSurvey_link, State.onSupply_link, State.bumpSerial_link, State.onConfig_link]

theorem createStandby_grows (i : TableSlot) (p : Port) (u : StandbyStatus) (s : State) : s.link.Grows (createStandby i p u s).link := by
  unfold createStandby
  grind [raiseStandby_grows, Link.Grows.refl, Link.Grows.trans, Report.cls, State.onTable_link, State.onLog_link, State.onCampaign_link, State.onPort_link, State.onSurvey_link, State.onSupply_link, State.bumpSerial_link, State.onConfig_link]

theorem prepareStandby_grows (i : TableSlot) (e : Entry) (s : State) : s.link.Grows (prepareStandby i e s).link := by
  unfold prepareStandby
  grind [createStandby_grows, adoptAttach_frame, submitAll_grows, clearStandby_grows, Link.Grows.refl, Link.Grows.trans, Report.cls, State.onTable_link, State.onLog_link, State.onCampaign_link, State.onPort_link, State.onSurvey_link, State.onSupply_link, State.bumpSerial_link, State.onConfig_link]

theorem seekStandby_grows (s : State) : s.link.Grows (seekStandby s).link := by
  unfold seekStandby
  grind [prepareStandby_grows, grantHold_frame, Link.Grows.refl, Link.Grows.trans, Report.cls, State.onTable_link, State.onLog_link, State.onCampaign_link, State.onPort_link, State.onSurvey_link, State.onSupply_link, State.bumpSerial_link, State.onConfig_link]

theorem standbyAttached_grows (ok : Bool) (s : State) : s.link.Grows (standbyAttached ok s).link := by
  unfold standbyAttached
  grind [raiseStandby_grows, clearStandby_grows, Link.Grows.refl, Link.Grows.trans, Report.cls, State.onTable_link, State.onLog_link, State.onCampaign_link, State.onPort_link, State.onSurvey_link, State.onSupply_link, State.bumpSerial_link, State.onConfig_link]

theorem dialTry_grows (t : CurrentTry) (p : Port) (s : State) : s.link.Grows (dialTry t p s).2.link := by
  unfold dialTry
  grind [acceptOrder_grows, onTry_frame, Link.Grows.refl, Link.Grows.trans, Report.cls, State.onTable_link, State.onLog_link, State.onCampaign_link, State.onPort_link, State.onSurvey_link, State.onSupply_link, State.bumpSerial_link, State.onConfig_link]

theorem bringTry_grows (s : State) : s.link.Grows (bringTry s).2.link := by
  unfold bringTry
  grind [dialTry_grows, adoptAttach_frame, preparing_frame, submitAll_grows, Link.Grows.refl, Link.Grows.trans, Report.cls, State.onTable_link, State.onLog_link, State.onCampaign_link, State.onPort_link, State.onSurvey_link, State.onSupply_link, State.bumpSerial_link, State.onConfig_link]

theorem beginStepTry_grows (s : State) : s.link.Grows (beginStepTry s).2.link := by
  unfold beginStepTry
  grind [createTry_frame, writeStepRecord_grows, Link.Grows.refl, Link.Grows.trans, Report.cls, State.onTable_link, State.onLog_link, State.onCampaign_link, State.onPort_link, State.onSurvey_link, State.onSupply_link, State.bumpSerial_link, State.onConfig_link]

theorem selectEntry_grows (s : State) : s.link.Grows (selectEntry s).2.link := by
  unfold selectEntry
  split
  · exact .refl _
  · split
    · split
      · refine .trans ?_ (bringTry_grows _)
        simp [Link.Grows.refl]
      · exact .refl _
    · split
      · exact writeStepRecord_grows _ _ s
      · exact .refl _

theorem endTry_grows (o : TryOutcome) (c : Option Byte) (s : State) : s.link.Grows (endTry o c s).link := by
  unfold endTry
  grind [leaveTalk_frame, withdrawHold_frame, tellOutcome_frame, writeRecord_grows, Link.Grows.refl, Link.Grows.trans, Report.cls, State.onTable_link, State.onLog_link, State.onCampaign_link, State.onPort_link, State.onSurvey_link, State.onSupply_link, State.bumpSerial_link, State.onConfig_link]

theorem handOver_grows (s : State) : s.link.Grows (handOver s).2.link := by
  unfold handOver
  grind [grantHold_frame, clearStandby_grows, Link.Grows.refl, Link.Grows.trans, Report.cls, State.onTable_link, State.onLog_link, State.onCampaign_link, State.onPort_link, State.onSurvey_link, State.onSupply_link, State.bumpSerial_link, State.onConfig_link]

theorem beginRecovery_grows (t : CurrentTry) (s : State) : s.link.Grows (beginRecovery t s).2.link := by
  unfold beginRecovery
  grind [handOver_grows, countLoss_frame, Link.Grows.refl, Link.Grows.trans, Report.cls, State.onTable_link, State.onLog_link, State.onCampaign_link, State.onPort_link, State.onSurvey_link, State.onSupply_link, State.bumpSerial_link, State.onConfig_link]

theorem afterTry_grows (t : CurrentTry) (o : TryOutcome) (s : State) : s.link.Grows (afterTry t o s).2.link := by
  unfold afterTry
  grind [clearStandby_grows, beginRecovery_grows, failStepTry_frame, countLoss_frame, Link.Grows.refl, Link.Grows.trans, Report.cls, State.onTable_link, State.onLog_link, State.onCampaign_link, State.onPort_link, State.onSurvey_link, State.onSupply_link, State.bumpSerial_link, State.onConfig_link]

theorem finishTry_grows (o : TryOutcome) (c : Option Byte) (s : State) : s.link.Grows (finishTry o c s).2.link := by
  unfold finishTry
  grind [afterTry_grows, endTry_grows, Link.Grows.refl, Link.Grows.trans, Report.cls, State.onTable_link, State.onLog_link, State.onCampaign_link, State.onPort_link, State.onSurvey_link, State.onSupply_link, State.bumpSerial_link, State.onConfig_link]

theorem beginRecoveryTry_grows (h : Option TableSlot) (s : State) : s.link.Grows (beginRecoveryTry h s).2.link := by
  unfold beginRecoveryTry
  (repeat' split) <;> first
    | exact .refl _
    | (refine .trans ?_ (bringTry_grows _); simp [Link.Grows.refl])

theorem lastResortTry_grows (i : TableSlot) (e : Entry) (s : State) : s.link.Grows (lastResortTry i e s).2.link := by
  unfold lastResortTry
  grind [bringTry_grows, takeEntry_frame, createTry_frame, Link.Grows.refl, Link.Grows.trans, Report.cls, State.onTable_link, State.onLog_link, State.onCampaign_link, State.onPort_link, State.onSurvey_link, State.onSupply_link, State.bumpSerial_link, State.onConfig_link]

theorem passPosition_grows (s : State) : s.link.Grows (passPosition s).2.link := by
  unfold passPosition
  grind [lastResortTry_grows, Link.Grows.refl, Link.Grows.trans, Report.cls, State.onTable_link, State.onLog_link, State.onCampaign_link, State.onPort_link, State.onSurvey_link, State.onSupply_link, State.bumpSerial_link, State.onConfig_link]

theorem resurveyPort_grows (n : Nat) (p : Port) (s : State) : s.link.Grows (resurveyPort n p s).link := by
  unfold resurveyPort
  grind [acceptOrder_grows, stopAwaiting_frame, Link.Grows.refl, Link.Grows.trans, Report.cls, State.onTable_link, State.onLog_link, State.onCampaign_link, State.onPort_link, State.onSurvey_link, State.onSupply_link, State.bumpSerial_link, State.onConfig_link]

theorem beginResurvey_grows (u : ResurveyUse) (s : State) : s.link.Grows (beginResurvey u s).2.link := by
  have h := eachPort_grows (resurveyPort s.serial) (fun p u => resurveyPort_grows s.serial p u) portList
    (s.bumpSerial.onCampaign fun c => { c with
      resurvey := some ⟨s.serial, u, PerPort.build (surveyable s)⟩, state := .resurvey })
  simpa [beginResurvey] using h

theorem closeCampaign_grows (o : CampaignOutcome) (s : State) : s.link.Grows (closeCampaign o s).link := by
  unfold closeCampaign
  grind [writeSummary_grows, withdrawAllHolds_frame, clearStandby_grows, Link.Grows.refl, Link.Grows.trans, Report.cls, State.onTable_link, State.onLog_link, State.onCampaign_link, State.onPort_link, State.onSurvey_link, State.onSupply_link, State.bumpSerial_link, State.onConfig_link]

theorem endCampaign_grows (o : CampaignOutcome) (s : State) : s.link.Grows (endCampaign o s).link := by
  unfold endCampaign
  grind [toIdle_frame, raise_grows, closeCampaign_grows, Link.Grows.refl, Link.Grows.trans, Report.cls, State.onTable_link, State.onLog_link, State.onCampaign_link, State.onPort_link, State.onSurvey_link, State.onSupply_link, State.bumpSerial_link, State.onConfig_link]

theorem goStep_grows (g : Go) (s : State) : s.link.Grows (goStep g s).2.link := by
  cases g <;> simp only [goStep] <;>
    grind [Link.Grows.refl, walkSlot_frame, beginLastResort_frame, beginStepTry_grows, selectEntry_grows, failStep_frame, finishTry_grows, checkRecovery_frame, beginRecoveryTry_grows, failRecovery_frame, passPosition_grows, beginResurvey_grows, completeResurvey_frame, openWindow_frame, endCampaign_grows]

theorem runGo_grows {n : Nat} {g : Go} {s t : State} (h : runGo n g s = some t) : s.link.Grows t.link := by
  induction n generalizing g s with
  | zero => simp [runGo] at h
  | succ n ih =>
    unfold runGo at h
    split at h
    · cases h
      exact .refl _
    · exact (goStep_grows _ _).trans (ih h)

theorem runChain_grows {k : StateKey} {g : Go} {s t : State} (h : runChain k g s = some t) :
    s.link.Grows t.link := by
  unfold runChain at h
  rw [Option.map_eq_some_iff] at h
  obtain ⟨u, hu, rfl⟩ := h
  exact (runGo_grows hu).trans (reportChange_grows _ _)

theorem closeOldWindow_grows (s : State) : s.link.Grows (closeOldWindow s).link := by
  unfold closeOldWindow
  grind [toIdle_frame, closeCampaign_grows, Link.Grows.refl, Link.Grows.trans, Report.cls, State.onTable_link, State.onLog_link, State.onCampaign_link, State.onPort_link, State.onSurvey_link, State.onSupply_link, State.bumpSerial_link, State.onConfig_link]

theorem freshCampaign_grows (o : CampaignOrigin) (q : Option Phase) (i : Option PlanSlot) (s : State) : s.link.Grows (freshCampaign o q i s).link := by
  unfold freshCampaign
  grind [raise_grows, clearLog_frame, Link.Grows.refl, Link.Grows.trans, Report.cls, State.onTable_link, State.onLog_link, State.onCampaign_link, State.onPort_link, State.onSurvey_link, State.onSupply_link, State.bumpSerial_link, State.onConfig_link]

theorem startCampaign_grows (o : CampaignOrigin) {s t : State} (h : startCampaign o s = some t) : s.link.Grows t.link := by
  unfold startCampaign at h
  grind [runChain_grows, freshCampaign_grows, closeOldWindow_grows, Link.Grows.refl, Link.Grows.trans, Report.cls, Option.map_eq_some_iff, Option.bind_eq_some_iff, State.onTable_link, State.onLog_link, State.onCampaign_link, State.onPort_link, State.onSurvey_link, State.onSupply_link, State.bumpSerial_link, State.onConfig_link]

theorem takePress_grows {s t : State} (h : takePress s = some t) : s.link.Grows t.link := by
  unfold takePress at h
  grind [startCampaign_grows, raise_grows, Link.Grows.refl, Link.Grows.trans, Report.cls, Option.map_eq_some_iff, Option.bind_eq_some_iff, State.onTable_link, State.onLog_link, State.onCampaign_link, State.onPort_link, State.onSurvey_link, State.onSupply_link, State.bumpSerial_link, State.onConfig_link]

theorem releaseTry_grows (r : ReleaseReason) (s : State) : s.link.Grows (releaseTry r s).link := by
  unfold releaseTry
  grind [submit_grows, onTry_frame, Link.Grows.refl, Link.Grows.trans, Report.cls, State.onTable_link, State.onLog_link, State.onCampaign_link, State.onPort_link, State.onSurvey_link, State.onSupply_link, State.bumpSerial_link, State.onConfig_link]

theorem ringExpires_grows (s : State) : s.link.Grows (ringExpires s).link := by
  unfold ringExpires
  grind [reportChange_grows, releaseTry_grows, Link.Grows.refl, Link.Grows.trans, Report.cls, State.onTable_link, State.onLog_link, State.onCampaign_link, State.onPort_link, State.onSurvey_link, State.onSupply_link, State.bumpSerial_link, State.onConfig_link]

theorem takeEndCall_grows (s : State) : s.link.Grows (takeEndCall s).link := by
  unfold takeEndCall
  grind [reportChange_grows, releaseTry_grows, clearStandby_grows, leaveTalk_frame, endCampaign_grows, Link.Grows.refl, Link.Grows.trans, Report.cls, State.onTable_link, State.onLog_link, State.onCampaign_link, State.onPort_link, State.onSurvey_link, State.onSupply_link, State.bumpSerial_link, State.onConfig_link]

theorem waitExpires_grows {s t : State} (h : waitExpires s = some t) : s.link.Grows t.link := by
  unfold waitExpires at h
  grind [runChain_grows, Link.Grows.refl, Link.Grows.trans, Report.cls, Option.map_eq_some_iff, Option.bind_eq_some_iff, State.onTable_link, State.onLog_link, State.onCampaign_link, State.onPort_link, State.onSurvey_link, State.onSupply_link, State.bumpSerial_link, State.onConfig_link]

theorem windowExpires_grows (s : State) : s.link.Grows (windowExpires s).link := by
  unfold windowExpires
  grind [endCampaign_grows, Link.Grows.refl, Link.Grows.trans, Report.cls, State.onTable_link, State.onLog_link, State.onCampaign_link, State.onPort_link, State.onSurvey_link, State.onSupply_link, State.bumpSerial_link, State.onConfig_link]

theorem tryAlerting_grows (p : Port) (s : State) : s.link.Grows (tryAlerting p s).link := by
  unfold tryAlerting
  grind [reportState_grows, onTry_frame, Link.Grows.refl, Link.Grows.trans, Report.cls, State.onTable_link, State.onLog_link, State.onCampaign_link, State.onPort_link, State.onSurvey_link, State.onSupply_link, State.bumpSerial_link, State.onConfig_link]

theorem sendDataOf_grows (t : CurrentTry) (p : Port) (s : State) : s.link.Grows (sendDataOf t p s).link := by
  unfold sendDataOf
  grind [acceptOrder_grows, onTry_frame, Link.Grows.refl, Link.Grows.trans, Report.cls, State.onTable_link, State.onLog_link, State.onCampaign_link, State.onPort_link, State.onSurvey_link, State.onSupply_link, State.bumpSerial_link, State.onConfig_link]

theorem tryConnected_grows (p : Port) (s : State) : s.link.Grows (tryConnected p s).link := by
  unfold tryConnected
  split
  · exact .refl _
  · split
    · split
      · exact .refl _
      · refine .trans ?_ (seekStandby_grows _)
        refine .trans ?_ (sendDataOf_grows _ _ _)
        refine .trans ?_ (reportChange_grows _ _)
        simp [Link.Grows.refl]
    · split
      · refine .trans ?_ (reportChange_grows _ _)
        simp [Link.Grows.refl]
      · exact .refl _

theorem tryCallEnded_grows (c : EndCause) (m : Byte) {s t : State} (h : tryCallEnded c m s = some t) : s.link.Grows t.link := by
  unfold tryCallEnded at h
  grind [runChain_grows, Link.Grows.refl, Link.Grows.trans, Report.cls, Option.map_eq_some_iff, Option.bind_eq_some_iff, State.onTable_link, State.onLog_link, State.onCampaign_link, State.onPort_link, State.onSurvey_link, State.onSupply_link, State.bumpSerial_link, State.onConfig_link]

theorem tryAttached_grows (k : Bool) (c : Byte) {s t : State} (h : tryAttached k c s = some t) : s.link.Grows t.link := by
  unfold tryAttached at h
  grind [runChain_grows, dialTry_grows, Link.Grows.refl, Link.Grows.trans, Report.cls, Option.map_eq_some_iff, Option.bind_eq_some_iff, State.onTable_link, State.onLog_link, State.onCampaign_link, State.onPort_link, State.onSurvey_link, State.onSupply_link, State.bumpSerial_link, State.onConfig_link]

theorem takeAttached_grows (u : Purpose) (k : Bool) (c : Byte) {s t : State} (h : takeAttached u k c s = some t) : s.link.Grows t.link := by
  unfold takeAttached at h
  grind [tryAttached_grows, standbyAttached_grows, Link.Grows.refl, Link.Grows.trans, Report.cls, Option.map_eq_some_iff, Option.bind_eq_some_iff, State.onTable_link, State.onLog_link, State.onCampaign_link, State.onPort_link, State.onSurvey_link, State.onSupply_link, State.bumpSerial_link, State.onConfig_link]

theorem answerContext_grows (s : State) : s.link.Grows (answerContext s).link := by
  unfold answerContext
  grind [withdrawEverywhere_frame, freshCampaign_grows, Link.Grows.refl, Link.Grows.trans, Report.cls, State.onTable_link, State.onLog_link, State.onCampaign_link, State.onPort_link, State.onSurvey_link, State.onSupply_link, State.bumpSerial_link, State.onConfig_link]

theorem takeOffer_grows (p : Port) (d : Option (List Byte)) (s : State) : s.link.Grows (takeOffer p d s).link := by
  unfold takeOffer
  split
  · refine .trans ?_ (seekStandby_grows _)
    refine .trans ?_ (reportChange_grows _ _)
    rw [(answerTry_frame _ _ _ _).2]
    refine .trans ?_ (answerContext_grows _)
    refine .trans ?_ (raise_grows _ _ (by simp [Report.cls]))
    exact submit_grows _ _ s.bumpSerial
  · refine .trans ?_ (raise_grows _ _ (by simp [Report.cls]))
    exact submit_grows _ _ s

theorem leaveAwaited_grows (p : Port) {s t : State} (h : leaveAwaited p s = some t) : s.link.Grows t.link := by
  unfold leaveAwaited at h
  grind [stopAwaiting_frame, runChain_grows, Link.Grows.refl, Link.Grows.trans, Report.cls, Option.map_eq_some_iff, Option.bind_eq_some_iff, State.onTable_link, State.onLog_link, State.onCampaign_link, State.onPort_link, State.onSurvey_link, State.onSupply_link, State.bumpSerial_link, State.onConfig_link]

theorem resurveyScanned_grows (n : Nat) (p : Port) {s t : State} (h : resurveyScanned n p s = some t) : s.link.Grows t.link := by
  unfold resurveyScanned at h
  grind [leaveAwaited_grows, Link.Grows.refl, Link.Grows.trans, Report.cls, Option.map_eq_some_iff, Option.bind_eq_some_iff, State.onTable_link, State.onLog_link, State.onCampaign_link, State.onPort_link, State.onSurvey_link, State.onSupply_link, State.bumpSerial_link, State.onConfig_link]

theorem endLostTry_grows (p : Port) {s t : State} (h : endLostTry p s = some t) : s.link.Grows t.link := by
  unfold endLostTry at h
  grind [runChain_grows, Link.Grows.refl, Link.Grows.trans, Report.cls, Option.map_eq_some_iff, Option.bind_eq_some_iff, State.onTable_link, State.onLog_link, State.onCampaign_link, State.onPort_link, State.onSurvey_link, State.onSupply_link, State.bumpSerial_link, State.onConfig_link]

theorem campaignPortLost_grows (p : Port) {s t : State} (h : campaignPortLost p s = some t) : s.link.Grows t.link := by
  unfold campaignPortLost at h
  rw [Option.bind_eq_some_iff] at h
  obtain ⟨u, hu, h⟩ := h
  refine (endLostTry_grows p hu).trans ?_
  refine .trans ?_ (leaveAwaited_grows p h)
  simp only [dropCallbackPort_frame]
  split
  · exact clearStandby_grows _ _
  · exact .refl _

theorem takeMode_grows (s : State) : s.link.Grows (takeMode s).link := by
  unfold takeMode
  grind [clearStandby_grows, endCampaign_grows, Link.Grows.refl, Link.Grows.trans, Report.cls, State.onTable_link, State.onLog_link, State.onCampaign_link, State.onPort_link, State.onSurvey_link, State.onSupply_link, State.bumpSerial_link, State.onConfig_link]

theorem sampleNetwork_grows (p : Port) (m : Sample) (s : State) : s.link.Grows (sampleNetwork p m s).link := by
  unfold sampleNetwork
  grind [sampleSlot_grows, Link.Grows.refl, Link.Grows.trans, Report.cls, State.onTable_link, State.onLog_link, State.onCampaign_link, State.onPort_link, State.onSurvey_link, State.onSupply_link, State.bumpSerial_link, State.onConfig_link]

theorem samplePass_grows (p : Port) (l : List Sample) (s : State) : s.link.Grows (samplePass p l s).link := by
  induction l generalizing s with
  | nil => exact .refl _
  | cons m rest ih =>
    unfold samplePass
    grind [sampleNetwork_grows, Link.Grows.refl, Link.Grows.trans, Report.cls, State.onTable_link, State.onLog_link, State.onCampaign_link, State.onPort_link, State.onSurvey_link, State.onSupply_link, State.bumpSerial_link, State.onConfig_link]

theorem recordPass_grows (p : Port) (k : List NetworkId) (l : List Sample) (s : State) : s.link.Grows (recordPass p k l s).link := by
  induction l generalizing s k with
  | nil => exact .refl _
  | cons m rest ih =>
    unfold recordPass
    grind [sampleNetwork_grows, recordNew_grows, Link.Grows.refl, Link.Grows.trans, Report.cls, State.onTable_link, State.onLog_link, State.onCampaign_link, State.onPort_link, State.onSurvey_link, State.onSupply_link, State.bumpSerial_link, State.onConfig_link]

theorem losePass_grows (p : Port) (l : List Sample) (s : State) : s.link.Grows (losePass p l s).link := by
  exact eachSlot_grows _ (fun _ _ => loseAndTell_grows _ _) _ _

theorem applyScan_grows (p : Port) (l : List Sample) (s : State) : s.link.Grows (applyScan p l s).link := by
  unfold applyScan
  grind [losePass_grows, recordPass_grows, samplePass_grows, Link.Grows.refl, Link.Grows.trans, Report.cls, State.onTable_link, State.onLog_link, State.onCampaign_link, State.onPort_link, State.onSurvey_link, State.onSupply_link, State.bumpSerial_link, State.onConfig_link]

theorem applyServing_grows (p : Port) (l q : Byte) (s : State) : s.link.Grows (applyServing p l q s).link := by
  unfold applyServing
  grind [sampleSlot_grows, Link.Grows.refl, Link.Grows.trans, Report.cls, State.onTable_link, State.onLog_link, State.onCampaign_link, State.onPort_link, State.onSurvey_link, State.onSupply_link, State.bumpSerial_link, State.onConfig_link]

theorem enterFault_grows (p : Port) (d : Bool) (c : FaultCause) {s t : State} (h : enterFault p d c s = some t) : s.link.Grows t.link := by
  unfold enterFault at h
  rw [Option.map_eq_some_iff] at h
  obtain ⟨u, hu, rfl⟩ := h
  refine .trans ?_ (raisePort_grows _ _ _)
  rw [State.onPort_link]
  refine .trans ?_ (campaignPortLost_grows p hu)
  refine .trans ?_ (losePort_grows _ _)
  simpa using portDown_grows p
    (s.onPort p fun c => { c with power := if d then .dead else .fault, tickDue := false })

theorem wakeTimesOut_grows (p : Port) {s t : State} (h : wakeTimesOut p s = some t) : s.link.Grows t.link := by
  unfold wakeTimesOut at h
  grind [enterFault_grows, Link.Grows.refl, Link.Grows.trans, Report.cls, Option.map_eq_some_iff, Option.bind_eq_some_iff, State.onTable_link, State.onLog_link, State.onCampaign_link, State.onPort_link, State.onSurvey_link, State.onSupply_link, State.bumpSerial_link, State.onConfig_link]

theorem sleepEnds_grows (p : Port) (s : State) : s.link.Grows (sleepEnds p s).link := by
  unfold sleepEnds
  grind [sendWake_grows, Link.Grows.refl, Link.Grows.trans, Report.cls, State.onTable_link, State.onLog_link, State.onCampaign_link, State.onPort_link, State.onSurvey_link, State.onSupply_link, State.bumpSerial_link, State.onConfig_link]

theorem sleepTimesOut_grows (p : Port) (s : State) : s.link.Grows (sleepTimesOut p s).link := by
  unfold sleepTimesOut
  grind [raisePort_grows, sleepEnds_grows, Link.Grows.refl, Link.Grows.trans, Report.cls, State.onTable_link, State.onLog_link, State.onCampaign_link, State.onPort_link, State.onSurvey_link, State.onSupply_link, State.bumpSerial_link, State.onConfig_link]

theorem wakeCompleted_grows (p : Port) (k : OrderKind) (s : State) : s.link.Grows (wakeCompleted p k s).link := by
  unfold wakeCompleted
  grind [raisePort_grows, Link.Grows.refl, Link.Grows.trans, Report.cls, State.onTable_link, State.onLog_link, State.onCampaign_link, State.onPort_link, State.onSurvey_link, State.onSupply_link, State.bumpSerial_link, State.onConfig_link]

theorem scanCompleted_grows (p : Port) (o : Order) (l : List Sample) {s t : State} (h : scanCompleted p o l s = some t) : s.link.Grows t.link := by
  unfold scanCompleted at h
  grind [applyScan_grows, surveyScanEnds_frame, resurveyScanned_grows, Link.Grows.refl, Link.Grows.trans, Report.cls, Option.map_eq_some_iff, Option.bind_eq_some_iff, State.onTable_link, State.onLog_link, State.onCampaign_link, State.onPort_link, State.onSurvey_link, State.onSupply_link, State.bumpSerial_link, State.onConfig_link]

theorem attachCompleted_grows (p : Port) (o : Order) (k : Bool) (c : Byte) {s t : State} (h : attachCompleted p o k c s = some t) : s.link.Grows t.link := by
  unfold attachCompleted at h
  split at h
  · dsimp only at h
    split at h
    · simpa using takeAttached_grows _ _ _ h
    all_goals
      simp only [Option.some.injEq] at h
      subst h
      simp [Link.Grows.refl]
  all_goals
    simp only [Option.some.injEq] at h
    subst h
    exact .refl _

theorem callEndCompleted_grows (p : Port) (o : Order) (c : EndCause) (m : Byte) {s t : State} (h : callEndCompleted p o c m s = some t) : s.link.Grows t.link := by
  unfold callEndCompleted at h
  dsimp only at h
  have key : ∀ u : State, u.link = (setCall p .none s).link → ∀ v,
      (if completionEndsTry u p o (s.port p).call then tryCallEnded c m u
        else some (reportChange (stateKey s.campaign) u)) = some v → s.link.Grows v.link := by
    intro u hu v hv
    have hs := setCall_grows p .none s
    rw [← hu] at hs
    split at hv
    · exact hs.trans (tryCallEnded_grows _ _ hv)
    · cases hv
      exact hs.trans (reportChange_grows _ _)
  refine key _ ?_ _ h
  split <;> simp

theorem completion_grows (p : Port) (o : Order) (n : Notice) {s t : State} (h : completion p o n s = some t) : s.link.Grows t.link := by
  unfold completion at h
  split at h
  · cases h
    exact wakeCompleted_grows _ _ s
  · cases h
    exact sleepEnds_grows _ s
  · exact scanCompleted_grows _ _ _ h
  · exact attachCompleted_grows _ _ _ _ h
  · cases h
    simp [Link.Grows.refl]
  · cases h
    split
    · exact (setCall_grows _ _ s).trans (tryAlerting_grows _ _)
    · exact setCall_grows _ _ s
  · cases h
    split
    · exact (setCall_grows _ _ s).trans (tryConnected_grows _ _)
    · exact setCall_grows _ _ s
  · exact callEndCompleted_grows _ _ _ _ h
  · cases h
    split <;> simp [Link.Grows.refl]
  all_goals
    cases h
    exact .refl _

theorem sendFollowing_grows (p : Port) (s : State) : s.link.Grows (sendFollowing p s).link :=
  (sendNext_grows p s).trans (reportChange_grows _ _)

theorem completeOrder_grows (p : Port) (o : Order) (n : Notice) {s t : State} (h : completeOrder p o n s = some t) : s.link.Grows t.link := by
  unfold completeOrder at h
  rw [Option.map_eq_some_iff] at h
  obtain ⟨u, hu, rfl⟩ := h
  exact (by simpa using completion_grows p o n hu : s.link.Grows u.link).trans (sendFollowing_grows _ _)

theorem unaskedCallEnded_grows (p : Port) (c : EndCause) (m : Byte) {s t : State} (h : unaskedCallEnded p c m s = some t) : s.link.Grows t.link := by
  unfold unaskedCallEnded at h
  dsimp only at h
  split at h
  · cases h
    exact .refl _
  · have hs := setCall_grows p .none s
    rw [← (clearCallOrders_frame p (setCall p .none s)).2] at hs
    split at h
    · exact hs.trans (tryCallEnded_grows _ _ h)
    · cases h
      exact hs.trans (reportChange_grows _ _)

theorem unaskedIncoming_grows (p : Port) (d : Option (List Byte)) (s : State) : s.link.Grows (unaskedIncoming p d s).link := by
  unfold unaskedIncoming
  grind [raisePort_grows, clearStandby_grows, takeOffer_grows, Link.Grows.refl, Link.Grows.trans, Report.cls, State.onTable_link, State.onLog_link, State.onCampaign_link, State.onPort_link, State.onSurvey_link, State.onSupply_link, State.bumpSerial_link, State.onConfig_link]

theorem unaskedServing_grows (p : Port) (l q : Byte) (s : State) : s.link.Grows (unaskedServing p l q s).link := by
  unfold unaskedServing
  grind [applyServing_grows, Link.Grows.refl, Link.Grows.trans, Report.cls, State.onTable_link, State.onLog_link, State.onCampaign_link, State.onPort_link, State.onSurvey_link, State.onSupply_link, State.bumpSerial_link, State.onConfig_link]

theorem registrationLost_grows (p : Port) (s : State) : s.link.Grows (registrationLost p s).link := by
  unfold registrationLost
  refine .trans ?_ (raisePort_grows _ _ _)
  simp only [State.onPort_link, attachmentAfter_frame]
  split
  · exact loseAndTell_grows _ s
  · exact .refl _

theorem unaskedNotice_grows (p : Port) (n : Notice) {s t : State} (h : unaskedNotice p n s = some t) : s.link.Grows t.link := by
  unfold unaskedNotice at h
  grind [unaskedCallEnded_grows, tryAlerting_grows, tryConnected_grows, setCall_grows, unaskedIncoming_grows, unaskedServing_grows, enterFault_grows, registrationLost_grows, Link.Grows.refl, Link.Grows.trans, Report.cls, Option.map_eq_some_iff, Option.bind_eq_some_iff, State.onTable_link, State.onLog_link, State.onCampaign_link, State.onPort_link, State.onSurvey_link, State.onSupply_link, State.bumpSerial_link, State.onConfig_link]

theorem takeNotice_grows (p : Port) (n : Notice) {s t : State} (h : takeNotice p n s = some t) : s.link.Grows t.link := by
  unfold takeNotice at h
  grind [completeOrder_grows, unaskedNotice_grows, Link.Grows.refl, Link.Grows.trans, Report.cls, Option.map_eq_some_iff, Option.bind_eq_some_iff, State.onTable_link, State.onLog_link, State.onCampaign_link, State.onPort_link, State.onSurvey_link, State.onSupply_link, State.bumpSerial_link, State.onConfig_link]

theorem restartPort_grows (p : Port) (s : State) : s.link.Grows (restartPort p s).link := by
  unfold restartPort
  grind [sendWake_grows, Link.Grows.refl, Link.Grows.trans, Report.cls, State.onTable_link, State.onLog_link, State.onCampaign_link, State.onPort_link, State.onSurvey_link, State.onSupply_link, State.bumpSerial_link, State.onConfig_link]

theorem policySleep_grows (p : Port) (s : State) : s.link.Grows (policySleep p s).link := by
  unfold policySleep
  grind [sendOrder_grows, Link.Grows.refl, Link.Grows.trans, Report.cls, State.onTable_link, State.onLog_link, State.onCampaign_link, State.onPort_link, State.onSurvey_link, State.onSupply_link, State.bumpSerial_link, State.onConfig_link]

theorem keepWarmWake_grows (p : Port) (s : State) : s.link.Grows (keepWarmWake p s).link := by
  unfold keepWarmWake
  grind [sendWake_grows, Link.Grows.refl, Link.Grows.trans, Report.cls, State.onTable_link, State.onLog_link, State.onCampaign_link, State.onPort_link, State.onSurvey_link, State.onSupply_link, State.bumpSerial_link, State.onConfig_link]

theorem periodEnds_grows (s : State) : s.link.Grows (periodEnds s).link := by
  unfold periodEnds
  grind [raise_grows, decayFailures_frame, seekStandby_grows, Link.Grows.refl, Link.Grows.trans, Report.cls, State.onTable_link, State.onLog_link, State.onCampaign_link, State.onPort_link, State.onSurvey_link, State.onSupply_link, State.bumpSerial_link, State.onConfig_link]

theorem compareMatches_grows (p : Port) (s : State) : s.link.Grows (compareMatches p s).link := by
  unfold compareMatches
  dsimp only
  split
  · simp [Link.Grows.refl]
  · split
    · simpa using acceptOrder_grows _ _ (s.onSurvey fun v => { v with matchDue := v.matchDue.put p false })
    · simp [Link.Grows.refl]

theorem takeMatch_grows (p : Port) (s : State) : s.link.Grows (takeMatch p s).link := by
  unfold takeMatch
  split
  · exact compareMatches_grows p s
  · exact .refl _

theorem finishStep_grows (s : State) : s.link.Grows (finishStep s).link := by
  unfold finishStep
  refine .trans ?_ (eachPort_grows _ (fun p s => takeMatch_grows p s) _ _)
  split
  · exact periodEnds_grows s
  · exact .refl _

theorem holdByHost_grows (s : State) : s.link.Grows (holdByHost s).link := by
  simpa [holdByHost] using finishStep_grows s

theorem surveyPort_grows (v : PerPort Bool) (p : Port) (s : State) : s.link.Grows (surveyPort v p s).link := by
  unfold surveyPort
  grind [submit_grows, Link.Grows.refl, Link.Grows.trans, Report.cls, State.onTable_link, State.onLog_link, State.onCampaign_link, State.onPort_link, State.onSurvey_link, State.onSupply_link, State.bumpSerial_link, State.onConfig_link]

theorem surveyNamed_grows (v : PerPort Bool) (s : State) : s.link.Grows (surveyNamed v s).link := by
  exact eachPort_grows _ (fun _ _ => surveyPort_grows _ _ _) _ _

theorem enterHalt_grows (s : State) : s.link.Grows (enterHalt s).link := by
  unfold enterHalt
  refine .trans ?_ (raise_grows _ _ (by simp [Report.cls]))
  refine (finishStep_grows s).trans ?_
  simpa using eachPort_grows _ (fun p s => haltPort_grows p s) portList
    ((takeStart (finishStep s)).onSupply fun m => { m with halt := true, interval := 60 })

theorem haltIfCutoff_grows (s : State) : s.link.Grows (haltIfCutoff s).link := by
  unfold haltIfCutoff
  grind [enterHalt_grows, Link.Grows.refl, Link.Grows.trans, Report.cls, State.onTable_link, State.onLog_link, State.onCampaign_link, State.onPort_link, State.onSurvey_link, State.onSupply_link, State.bumpSerial_link, State.onConfig_link]

theorem changeMode_grows (m : SupplyMode) (s : State) : s.link.Grows (changeMode m s).link := by
  unfold changeMode
  split
  · exact .refl _
  · refine .trans ?_ (takeMode_grows _)
    refine .trans ?_ (raise_grows _ _ (by simp [Report.cls]))
    exact .refl _

theorem takeIdleNotice_grows (s : State) : s.link.Grows (takeIdleNotice s).link := by
  unfold takeIdleNotice
  grind [haltIfCutoff_grows, Link.Grows.refl, Link.Grows.trans, Report.cls, State.onTable_link, State.onLog_link, State.onCampaign_link, State.onPort_link, State.onSurvey_link, State.onSupply_link, State.bumpSerial_link, State.onConfig_link]

theorem freeAged_grows (i : TableSlot) (s : State) : s.link.Grows (freeAged i s).link := by
  unfold freeAged
  grind [freeSlot_grows, Link.Grows.refl, Link.Grows.trans, Report.cls, State.onTable_link, State.onLog_link, State.onCampaign_link, State.onPort_link, State.onSurvey_link, State.onSupply_link, State.bumpSerial_link, State.onConfig_link]

end Sys2Proof.Machine
end

