-- ==== Sys2Proof/Laws/Requests.lean ====
section
/-! SUPPORT. The arrival of a frame on the host line, said once: taken at once on a ready link, kept or
dropped on a held one; and what placing a reply changes. -/

namespace Sys2Proof.Machine

/-- A link that is ready takes the frame in its own event (10 R186). -/
theorem hostFrame_ready (f : Frame) (s : State) (h : LinkReady s) : hostFrame f s = serveFrame f (lineIdle s) := by
  obtain ⟨h1, h2, h3, h4⟩ := h
  have step1 : offerFrame f (s.onLink fun l => { l with rx := .hunting }) =
      s.onLink fun l => { l with rx := .hunting, inbound := [f] } := by
    simp [offerFrame, State.onLink, h1]
  have take : canTake (s.onLink fun l => { l with rx := .hunting, inbound := [f] }) = true := by
    simp [canTake, State.onLink, h2, h3, h4]
  have head : takeHead (s.onLink fun l => { l with rx := .hunting, inbound := [f] }) =
      serveFrame f (lineIdle s) := by
    simp [takeHead, State.onLink, lineIdle, h1]
  unfold hostFrame frameArrives
  rw [step1]
  unfold serveWaiting
  rw [show (s.onLink fun l => { l with rx := .hunting, inbound := [f] }).link.inbound.length = 1 from rfl]
  simp only [takeRequests, take, if_true, head]
  cases serveFrame f (lineIdle s) <;> rfl

/-- A held link takes nothing: the frame waits, or is lost to OVERRUN when four wait already (10 R183). -/
theorem hostFrame_held (f : Frame) (s : State) (h : LinkHeld s) :
    hostFrame f s = some (s.onLink fun l =>
      if l.inbound.length < 4 then { l with rx := .hunting, inbound := l.inbound ++ [f] }
      else { l with rx := .hunting, overrun := true }) := by
  have key : ∀ (n : Nat) (u : State), LinkHeld u → takeRequests n u = some u := by
    intro n u hu
    cases n with
    | zero => rfl
    | succ n =>
      have : canTake u = false := by
        rcases hu with hu | hu | hu
        · simp [canTake, Nat.not_lt.mpr hu]
        · cases hw : u.store.writing <;> simp_all [canTake]
        · simp [canTake, hu]
      simp [takeRequests, this]
  unfold hostFrame frameArrives serveWaiting offerFrame
  by_cases hc : s.link.inbound.length < 4
  · simp only [State.onLink_link, hc, if_true]
    rw [key]
    · simp [State.onLink, hc]
    · simpa [LinkHeld, State.onLink] using h
  · simp only [State.onLink_link, hc, if_false]
    rw [key]
    · simp [State.onLink, hc]
    · simpa [LinkHeld, State.onLink] using h

/-- What placing a reply changes: the host link alone. -/
theorem placeReply_eq (type : Byte) (code : ReplyCode) (contents : Contents) (s : State) :
    placeReply type code contents s = { s with
      link := if s.link.outbound.length < 8 then
          placeFrame (.reply ⟨type, code, false, false, s.link.pendingSet, contents⟩) s.link
        else s.link } := by
  unfold placeReply
  split <;> rfl

end Sys2Proof.Machine
end

