-- ==== Sys2Proof/Laws/Table.lean ====
section
/-! SUPPORT. The slots of the Network Table: reads after changes, changes of one slot made one, and what
finding a network means. -/

namespace Sys2Proof.Machine

@[simp] theorem NetTable.entry_putEntry_self (t : NetTable) (i : TableSlot) (e : Option Entry) :
    (t.putEntry i e).entry i = e := by
  exact Vector.getElem_set_self i.isLt

theorem NetTable.entry_putEntry (t : NetTable) (i j : TableSlot) (e : Option Entry) :
    (t.putEntry i e).entry j = if j = i then e else t.entry j := by
  by_cases h : j = i
  · subst h
    simp
  · have h1 : (i : Nat) ≠ j := fun k => h (Fin.ext k.symm)
    rw [if_neg h]
    exact Vector.getElem_set_ne i.isLt j.isLt h1

theorem NetTable.entry_putEntry_of_ne (t : NetTable) {i j : TableSlot} (e : Option Entry) (h : j ≠ i) :
    (t.putEntry i e).entry j = t.entry j := by
  rw [NetTable.entry_putEntry, if_neg h]

@[simp] theorem NetTable.entry_onEntry_self (t : NetTable) (i : TableSlot) (f : Entry → Entry) :
    (t.onEntry i f).entry i = (t.entry i).map f := by
  simp [NetTable.onEntry]

theorem NetTable.entry_onEntry (t : NetTable) (i j : TableSlot) (f : Entry → Entry) :
    (t.onEntry i f).entry j = if j = i then (t.entry i).map f else t.entry j := by
  simp [NetTable.onEntry, NetTable.entry_putEntry]

theorem NetTable.entry_onEntry_of_ne (t : NetTable) {i j : TableSlot} (f : Entry → Entry) (h : j ≠ i) :
    (t.onEntry i f).entry j = t.entry j := by
  rw [NetTable.entry_onEntry, if_neg h]

@[simp] theorem NetTable.entry_onAll (t : NetTable) (i : TableSlot) (f : Entry → Entry) :
    (t.onAll f).entry i = (t.entry i).map f := by
  exact Vector.getElem_map (fun o : Option Entry => o.map f) i.isLt

@[simp] theorem NetTable.putEntry_putEntry (t : NetTable) (i : TableSlot) (a b : Option Entry) :
    (t.putEntry i a).putEntry i b = t.putEntry i b := by
  simp [NetTable.putEntry]

/-- Two changes of one entry are one. -/
theorem NetTable.onEntry_onEntry (t : NetTable) (i : TableSlot) (f g : Entry → Entry) :
    (t.onEntry i f).onEntry i g = t.onEntry i (fun e => g (f e)) := by
  simp [NetTable.onEntry, Function.comp_def]

@[simp] theorem NetTable.agedDue_putEntry (t : NetTable) (i : TableSlot) (e : Option Entry) :
    (t.putEntry i e).agedDue = t.agedDue := rfl

@[simp] theorem NetTable.agedDue_onEntry (t : NetTable) (i : TableSlot) (f : Entry → Entry) :
    (t.onEntry i f).agedDue = t.agedDue := rfl

@[simp] theorem NetTable.agedDue_onAll (t : NetTable) (f : Entry → Entry) : (t.onAll f).agedDue = t.agedDue := rfl

/-- Two tables with the same entries and the same slots due are one. -/
theorem NetTable.ext_entry {t u : NetTable} (h : ∀ i, t.entry i = u.entry i) (k : t.agedDue = u.agedDue) :
    t = u := by
  cases t with
  | mk a x =>
    cases u with
    | mk b y =>
      have : a = b := Vector.ext fun i hi => h ⟨i, hi⟩
      cases this
      cases k
      rfl

/-- A found slot holds the entry of the network on the port. -/
theorem NetTable.find_some {t : NetTable} {p : Port} {net : NetworkId} {i : TableSlot}
    (h : t.find p net = some i) : ∃ e, t.entry i = some e ∧ e.port = p ∧ e.net = net := by
  have := List.find?_some h
  cases he : t.entry i with
  | none => simp [he] at this
  | some e => exact ⟨e, rfl, by simpa [he, Entry.isOf] using this⟩

/-- No slot is found exactly where no entry is of the network on the port. -/
theorem NetTable.find_none {t : NetTable} {p : Port} {net : NetworkId} :
    t.find p net = none ↔ ∀ i e, t.entry i = some e → ¬(e.port = p ∧ e.net = net) := by
  unfold NetTable.find
  rw [List.find?_eq_none]
  constructor
  · intro h i e he
    have := h i (List.mem_finRange i)
    simpa [he, Entry.isOf] using this
  · intro h i _
    cases he : t.entry i with
    | none => simp
    | some e => simpa [he, Entry.isOf] using h i e he

/-- The slots where a test holds. -/
theorem NetTable.mem_slotsWhere {t : NetTable} {test : Entry → Bool} {i : TableSlot} :
    i ∈ t.slotsWhere test ↔ ∃ e, t.entry i = some e ∧ test e = true := by
  simp [NetTable.slotsWhere, tableSlots, Option.any_eq_true]

theorem scoreOf_le (e : Entry) : scoreOf e ≤ 780 := by
  unfold scoreOf
  have := clampInt_le (lo := 0) (hi := 780)
    (n := levelTerm e.level + qualityTerm e.quality + preferenceTerm e.preference - agePenalty e.age
      - failurePenalty e.failures) (by omega)
  omega

/-- A score computation changes the preference and the score alone. -/
@[simp] theorem rescore_fields (prefs : List PreferenceRecord) (e : Entry) :
    (rescore prefs e).state = e.state ∧ (rescore prefs e).port = e.port ∧ (rescore prefs e).net = e.net
      ∧ (rescore prefs e).level = e.level ∧ (rescore prefs e).quality = e.quality
      ∧ (rescore prefs e).samples = e.samples ∧ (rescore prefs e).age = e.age
      ∧ (rescore prefs e).failures = e.failures ∧ (rescore prefs e).holds = e.holds
      ∧ (rescore prefs e).lastCause = e.lastCause := by
  simp [rescore]

/-- Holds are no input to the score. -/
theorem rescore_holds (prefs : List PreferenceRecord) (e : Entry) (h : Holds) :
    rescore prefs { e with holds := h } = { rescore prefs e with holds := h } := rfl

end Sys2Proof.Machine
end

