-- ==== Sys2Proof/Tests/Slice0.lean ====
section
/-! SUPPORT. Tests: what WellFormed refuses, worked examples of the manual (each names its place), and for
each statement with hypotheses a concrete state and operands that meet them, at the bounds of its clauses. -/

namespace Sys2Proof.Tests

open Sys2Proof.Machine

/-! ## Concrete states -/

def netA : NetworkId := ⟨23410, .wide⟩

def netB : NetworkId := ⟨23415, .packet⟩

/-- An entry of a network on a port, its score computed. -/
def entryOf (p : Port) (net : NetworkId) : Entry :=
  rescore []
    { state := .seen, port := p, net := net, level := -320, quality := 40, samples := 3, age := 10,
      failures := 0, preference := .weight 1, score := 0, holds := Holds.empty, lastCause := none }

def entryA : Entry := entryOf .p0 netA

def entryB : Entry := entryOf .p1 netB

/-- A port ON and idle. -/
def onPort : PortContext := PortContext.afterReset .on

/-- Destination 1 dials 112 and asks for the data message; slot 0 dials it, slot 1 waits. -/
def testConfig : WorkingConfig :=
  { WorkingConfig.builtin with
    directory := WorkingConfig.builtin.directory.set 1 ⟨[0x31, 0x31, 0x32], true⟩
    steps := (WorkingConfig.builtin.steps.set 0 (.dial 1 ClassSet.all 3 true)).set 1 (.wait 20 true) }

/-- Four ports ON, P0 and P1 attached and in the table, the link idle. -/
def idle : State :=
  { State.reset with
    cfg := testConfig
    link := Link.afterReset
    supply := { Supply.afterReset with converting := false }
    table := (NetTable.free.putEntry 0 (some entryA)).putEntry 1 (some entryB)
    ports := ⟨{ onPort with attachment := .attached netA }, { onPort with attachment := .attached netB },
      onPort, onPort⟩ }

/-- The state with other campaign values. -/
def campaigning (c : Campaign) : State := { idle with campaign := c }

/-- The state with another context on P0. -/
def withP0 (c : PortContext) (s : State) : State := { s with ports := { s.ports with p0 := c } }

/-- A try of the plan over slot 0 on P0. -/
def tryIn (stage : TryStage) : CurrentTry :=
  { id := 0, origin := .plan, number := some 1, slot := some 0, destination := some 1,
    digits := [0x31, 0x31, 0x32], dataFlag := true, entry := some 0, net := some netA, port := some .p0,
    score := some entryA.score, stage := stage, release := none, talk := some 5, data := none, cause := none }

/-- A campaign with that try. -/
def dialling (state : CampaignState) (stage : TryStage) : Campaign :=
  { Campaign.inIdle with
    state := state, phase := some .plan, origin := some .button, cursor := some 0,
    dialStep := some ⟨0, 1, ClassSet.all, 3, [], false⟩, attempt := some (tryIn stage) }

/-- In TALK over slot 0 on P0. -/
def talking : Campaign :=
  { dialling .talk .connected with callEntry := some 0, callPort := some .p0, route := some .p0 }

/-- A connected port. -/
def talkPort : PortContext :=
  { onPort with attachment := .attached netA, call := .connected, silenceTimer := some 30 }

/-- A campaign waiting at slot 1. -/
def waiting : Campaign :=
  { Campaign.inIdle with
    state := .pause, phase := some .plan, origin := some .button, cursor := some 1, waitTimer := some 0 }

/-- The next state an outcome holds. -/
def nextOf : Host.Outcome State Fault Refusal → Option State
  | .next s => some s
  | .fault _ => none
  | .refused _ => none

/-! ## WellFormed -/

theorem test_refuses_long_unknown_notice :
    (Instr.unknownNotice .p0 0xB0 (List.replicate 200 0)).wellFormed = false := by decide +kernel

theorem test_refuses_long_scan_result :
    (Instr.scanResult .p0 (List.replicate 34 ⟨0, 1, 0, 0⟩)).wellFormed = false := by decide +kernel

theorem test_refuses_long_incoming :
    (Instr.incoming .p0 (some (List.replicate 198 0x30))).wellFormed = false := by decide +kernel

theorem test_refuses_long_load_steps :
    (Instr.loadSteps 0 (List.replicate 40 ⟨3, 0, 0, 0, 0⟩)).wellFormed = false := by decide +kernel

theorem test_refuses_long_load_destination :
    (Instr.loadDestination 0 (List.replicate 197 0x30) 0).wellFormed = false := by decide +kernel

theorem test_refuses_long_preferences :
    (Instr.setPreferences (List.replicate 50 ⟨0, 0⟩)).wellFormed = false := by decide +kernel

theorem test_refuses_long_box_record :
    (Instr.setBoxRecord (List.replicate 99 0x41) (List.replicate 99 0x41)).wellFormed = false := by decide +kernel

theorem test_refuses_long_unknown_request :
    (Instr.unknownRequest 0x30 (List.replicate 200 0)).wellFormed = false := by decide +kernel

theorem test_refuses_long_requests :
    (Request.loadSteps 0 (List.replicate 40 ⟨3, 0, 0, 0, 0⟩)).wellFormed = false
    ∧ (Request.loadDestination 0 (List.replicate 197 0x30) 0).wellFormed = false
    ∧ (Request.setPreferences (List.replicate 50 ⟨0, 0⟩)).wellFormed = false
    ∧ (Request.setBoxRecord (List.replicate 99 0x41) (List.replicate 99 0x41)).wellFormed = false := by decide +kernel

theorem test_accepts_full_frames :
    (Instr.unknownRequest 0x30 (List.replicate 199 0)).wellFormed = true
    ∧ (Instr.scanResult .p0 (List.replicate 33 ⟨0, 1, 0, 0⟩)).wellFormed = true
    ∧ (Instr.loadSteps 0 (List.replicate 39 ⟨3, 0, 0, 0, 0⟩)).wellFormed = true := by decide +kernel

/-! ## Worked examples of the manual -/

/-- 10 R182: the nine characters 1 to 9. -/
theorem test_check_value : crc16 [0x31, 0x32, 0x33, 0x34, 0x35, 0x36, 0x37, 0x38, 0x39] = 0x29B1#16 := by
  decide +kernel

/-- 04 section 4.5, the table of entries: the scores 319 and 287, and 228 after the first try. -/
theorem test_scores_of_section_4_5 :
    scoreOf { entryA with level := -400, quality := 40, preference := .weight 1, age := 30, failures := 0 } = 319
    ∧ scoreOf { entryA with level := -420, quality := 20, preference := .weight 2, age := 50, failures := 0 }
      = 287
    ∧ scoreOf { entryA with level := -400, quality := 40, preference := .weight 1, age := 34, failures := 1 }
      = 228 := by decide +kernel

/-- 01 R8: a difference of 3 leaves the average, one of 4 moves it by 1. -/
theorem test_average_dead_band :
    averaged 1 (-321) (-80) = -321 ∧ averaged 1 (-323) (-80) = -323 ∧ averaged 1 (-324) (-80) = -323
    ∧ averaged 1 (-316) (-80) = -317 ∧ averaged 0 7 (-80) = -320 := by decide +kernel

/-- 11 R198 to R200: POWER_ON_RESET with a store never written gives the state after reset. -/
theorem test_power_on_gives_reset : exec (.powerOnReset resetBoard) State.reset = .next State.reset := by
  rfl

/-- 03 R55: a press held over gives one press. -/
theorem test_unarmed_press : exec .callPress { idle with armed := false } = .next { idle with armed := false } := by
  rfl

/-- 10 R181: STATUS's frame is A5 01 01 and its check value. -/
theorem test_status_frame : (encodeRequest .status).line = [0xA5, 0x01, 0x01, 0x3E, 0x1F] := by decide +kernel

/-! ## Witnesses: the step, resets, presses -/

theorem witness_step : ({ idle with pending := [.tick] } : State).pending = .tick :: [] ∧ idle.pending = [] := by
  decide

theorem witness_reset : (Instr.powerOnReset resetBoard = .powerOnReset resetBoard ∧ ResetKind.powerOn = .powerOn)
    ∧ (Instr.pinReset resetBoard = .pinReset resetBoard ∧ ResetKind.pin = .pin) := by decide

theorem witness_press : idle.armed = true ∧ idle.campaign.state = .idle
    ∧ ({ idle with supply := { idle.supply with mode := .cutoff } } : State).supply.mode = .cutoff
    ∧ (∃ t, exec .callPress { idle with supply := { idle.supply with mode := .cutoff } } = .next t)
    ∧ (campaigning { talking with presses := 255 }).armed = true
    ∧ (campaigning { talking with presses := 255 }).campaign.state ≠ .idle
    ∧ (campaigning { talking with presses := 255 }).campaign.state ≠ .callback
    ∧ ({ idle with armed := false } : State).armed = false := by
  refine ⟨rfl, rfl, rfl, ⟨_, rfl⟩, rfl, ?_, ?_, rfl⟩ <;> decide

/-- The entry slot holds a WAIT. -/
def waitFirst : State := { idle with cfg := { testConfig with tuning := { Tuning.builtin with entrySlot := 1 } } }

theorem witness_press_starts : waitFirst.armed = true ∧ waitFirst.campaign.state = .idle
    ∧ waitFirst.supply.mode ≠ .cutoff ∧ waitFirst.supply.halt = false
    ∧ waitFirst.cfg.steps.get waitFirst.cfg.tuning.entrySlot = .wait 20 true := by decide +kernel

theorem witness_start_call : LinkReady waitFirst
    ∧ (LinkReady (campaigning talking) ∧ (campaigning talking).campaign.state ≠ .idle
      ∧ (campaigning talking).campaign.state ≠ .callback)
    ∧ (LinkReady { idle with supply := { idle.supply with halt := true } }
      ∧ idle.campaign.state = .idle)
    ∧ waitFirst.campaign.state = .idle ∧ waitFirst.supply.mode ≠ .cutoff ∧ waitFirst.supply.halt = false
    ∧ waitFirst.cfg.steps.get waitFirst.cfg.tuning.entrySlot = .wait 20 true := by
  unfold LinkReady
  decide +kernel

theorem witness_press_dials : idle.armed = true ∧ idle.campaign = Campaign.inIdle ∧ idle.supply.mode ≠ .cutoff
    ∧ idle.cfg.steps.get idle.cfg.tuning.entrySlot = .dial 1 ClassSet.all 3 true
    ∧ (idle.cfg.directory.get 1).digits ≠ [] ∧ firstEligible idle ClassSet.all = some 0
    ∧ idle.table.entry 0 = some entryA ∧ PortFree idle entryA.port
    ∧ (idle.port entryA.port).attachment = .attached entryA.net ∧ (idle.port entryA.port).call = .none
    ∧ idle.supply.halt = false
    ∧ ((withP0 { idle.port .p0 with inFlight := some ⟨⟨.scan, .host⟩, 9⟩ } idle).port .p0).inFlight ≠ none
    ∧ ((withP0 { idle.port .p0 with inFlight := some ⟨⟨.scan, .host⟩, 9⟩ } idle).port .p0).queue.length < 4 := by
  unfold PortFree
  decide +kernel

/-- P0 going to or on another network. -/
def elsewhere (a : Attachment) : State := withP0 { onPort with attachment := a } idle

/-- P0 attached elsewhere: DETACH goes out, ATTACH is queued. -/
theorem witness_brought_detach : BroughtTo (elsewhere (.attached netB)) .p0 0 netA (.attempt 0)
    { onPort with
      attachment := .attaching 0 netA
      inFlight := some ⟨⟨.detach, .campaign (.attempt 0)⟩, 10⟩
      queue := [⟨.attach 0 netA, .campaign (.attempt 0)⟩] } := by
  refine .inr ⟨by decide, by decide, _, 10, _, .inl ⟨.inl ⟨netB, rfl, by decide⟩, rfl, rfl, rfl⟩, .inl ⟨?_, rfl⟩⟩
  unfold PortFree
  decide +kernel

/-- P0 OFF: ATTACH stands behind a WAKE. -/
theorem witness_brought_wake : BroughtTo (withP0 (PortContext.afterReset .off) idle) .p0 0 netA (.attempt 0)
    { PortContext.afterReset .waking with
      attachment := .attaching 0 netA
      inFlight := some ⟨⟨.wake .demand, .port⟩, 20⟩
      queue := [⟨.attach 0 netA, .campaign (.attempt 0)⟩] } :=
  .inr ⟨by decide, by decide, _, 45, _, .inr ⟨.inl rfl, rfl, rfl, rfl⟩, .inr (.inl ⟨rfl, rfl, rfl⟩)⟩

/-- P0 busy with a START SCAN: ATTACH is queued. -/
theorem witness_brought_busy : BroughtTo (withP0 startedPort idle) .p0 0 netA (.attempt 0)
    { startedPort with
      attachment := .attaching 0 netA
      queue := [⟨.scan, .start⟩, ⟨.attach 0 netA, .campaign (.attempt 0)⟩] } :=
  .inr ⟨by decide, by decide, _, 45, _, .inr ⟨.inl rfl, rfl, rfl, rfl⟩,
    .inr (.inr ⟨.inl rfl, by decide, rfl⟩)⟩

/-- P0 attaching the entry already. -/
theorem witness_brought_wait :
    BroughtTo (withP0 { onPort with
        attachment := .attaching 0 netA, inFlight := some ⟨⟨.attach 0 netA, .campaign (.standby 9)⟩, 5⟩ } idle)
      .p0 0 netA (.attempt 0)
      { onPort with
        attachment := .attaching 0 netA, inFlight := some ⟨⟨.attach 0 netA, .campaign (.attempt 0)⟩, 5⟩ } :=
  .inl ⟨rfl, .inl ⟨by decide, _, _, rfl, rfl⟩⟩

/-! ## Witnesses: time -/

/-- A held, a running and a last-second timer, none due. -/
theorem witness_tick : Quiet (campaigning talking) = true
    ∧ Quiet { idle with survey := { idle.survey with counter := 599 } } = true
    ∧ Quiet { idle with survey := { idle.survey with counter := 4095 } } = true
    ∧ Quiet { idle with survey := { idle.survey with holdHost := true } } = true := by decide +kernel

/-- A LOST entry in slot 0, as old as given, with its tick's note. -/
def agedAt (age : Nat) : State :=
  { idle with
    table :=
      { (NetTable.free.putEntry 0 (some { entryA with state := .lost, age := age })) with agedDue := [0] } }

theorem witness_aged : (agedAt 3601).table.entry 0 = some { entryA with state := .lost, age := 3601 }
    ∧ (0 : TableSlot) ∈ (agedAt 3601).table.agedDue
    ∧ (agedAt 3600).table.entry 0 = some { entryA with state := .lost, age := 3600 } := by decide +kernel

/-- Slot 1 waits and goes on to a WAIT or to a GOTO of itself in slot 2. -/
def waitThen (next : PlanStep) : State :=
  { campaigning waiting with cfg := { testConfig with steps := testConfig.steps.set 2 next } }

theorem witness_wait_ends : (waitThen (.wait 7 false)).campaign.state = .pause
    ∧ (waitThen (.wait 7 false)).campaign.waitTimer = some 0
    ∧ (waitThen (.wait 7 false)).campaign.cursor = some 1
    ∧ (waitThen (.wait 7 false)).cfg.steps.get 1 = .wait 20 true
    ∧ (waitThen (.wait 7 false)).cfg.steps.get (1 + 1) = .wait 7 false
    ∧ (waitThen (.goto 2)).cfg.steps.get 1 = .wait 20 true
    ∧ (waitThen (.goto 2)).cfg.steps.get (1 + 1) = .goto (1 + 1)
    ∧ (waitThen (.goto 2)).campaign.controlCount = 0
    ∧ ((waitThen (.goto 2)).cfg.directory.get 0).digits = [] := by decide +kernel

/-- The same with slots 3 and 4 given, other campaign values, and digits in destination 0. -/
def waitThen3 (next third fourth : PlanStep) (c : Campaign) : State :=
  { campaigning c with cfg := { testConfig with
      directory := testConfig.directory.set 0 ⟨[0x39], false⟩
      steps := ((testConfig.steps.set 2 next).set 3 third).set 4 fourth } }

/-- A TEST that holds and one that does not, an INVOKE with room, a RETURN to slot 4. -/
theorem witness_wait_controls :
    (waitThen3 (.test .afterLoss) (.wait 5 true) (.wait 6 true) waiting).cfg.steps.get 2 = .test .afterLoss
    ∧ (waitThen3 (.test .afterLoss) (.wait 5 true) (.wait 6 true) waiting).campaign.afterLoss = false
    ∧ (waitThen3 (.test .supplyLow) (.goto 9) (.wait 6 true) waiting).supply.mode = .normal
    ∧ firstEligible (waitThen3 (.test (.noCandidate ClassSet.all)) .ret .ret waiting) ⟨true, false, false⟩ = none
    ∧ stepMore (.goto 9) ≠ some false ∧ (1 ≤ { waiting with presses := 1 }.presses)
    ∧ (waitThen3 (.invoke 4) .ret (.wait 6 true) { waiting with stack := [7, 8, 9] }).campaign.stack.length < 4
    ∧ (waitThen3 .ret .ret (.wait 6 true) { waiting with stack := [7, 4] }).campaign.stack = [7] ++ [4]
    ∧ (waitThen3 .ret .ret (.wait 6 true) { waiting with stack := [7, 4] }).cfg.steps.get 4 = .wait 6 true
    ∧ waiting.controlCount = 0 := by decide +kernel

/-- The plan ends by a more flag of 0, a RETURN, a LOOP and a full stack, with destination 0 given. -/
theorem witness_plan_ends :
    ({ testConfig with steps := testConfig.steps.set 1 (.wait 20 false) } : WorkingConfig).steps.get 1
      = .wait 20 false
    ∧ (waitThen3 .ret .ret .ret waiting).cfg.steps.get 2 = .ret ∧ waiting.stack = []
    ∧ 4 ≤ (waitThen3 (.invoke 4) .ret .ret { waiting with stack := [7, 8, 9, 9] }).campaign.stack.length
    ∧ ((waitThen3 .ret .ret .ret waiting).cfg.directory.get 0).digits ≠ []
    ∧ (((waitThen3 .ret .ret .ret waiting).table.ranked.map Prod.fst).filter fun j =>
      ((waitThen3 .ret .ret .ret waiting).table.entry j).any fun x =>
        x.state == .seen && x.preference != .bar
          && ((waitThen3 .ret .ret .ret waiting).port x.port).power.usable) = [0, 1]
    ∧ (waitThen3 .ret .ret .ret waiting).table.entry 0 = some entryA
    ∧ PortFree (waitThen3 .ret .ret .ret waiting) entryA.port
    ∧ ((waitThen3 .ret .ret .ret waiting).port entryA.port).attachment = .attached entryA.net
    ∧ ((waitThen3 .ret .ret .ret waiting).port entryA.port).call = .none
    ∧ waiting.route = none ∧ waiting.standby = none := by
  unfold PortFree
  decide +kernel

/-- Ringing on P0 with the timer at 0. -/
def ringing : State :=
  withP0 { onPort with attachment := .attached netA, call := .alerting }
    (campaigning { dialling .ring .ringing with ringTimer := some 0 })

theorem witness_ring_times_out : ringing.campaign.state = .ring ∧ ringing.campaign.ringTimer = some 0
    ∧ ringing.campaign.attempt = some (tryIn .ringing) ∧ (tryIn .ringing).port = some .p0
    ∧ ringing.campaign.route = none ∧ PortFree ringing .p0 ∧ (ringing.port .p0).call = .alerting := by
  unfold PortFree
  decide +kernel

/-- An open callback window. -/
def window (seconds : Nat) : Campaign :=
  { Campaign.inIdle with
    state := .callback, phase := some .plan, origin := some .button, windowTimer := some seconds,
    callbackPort := some .p0 }

theorem witness_window : (campaigning (window 0)).campaign.state = .callback
    ∧ (campaigning (window 0)).campaign.windowTimer = some 0 ∧ (campaigning (window 0)).campaign.standby = none := by
  decide

/-! ## Witnesses: failures, sleep and restarts -/

/-- P0 with an order in flight whose time is up. -/
def timedOutOn (power : Power) (kind : OrderKind) (count : Nat) : State :=
  withP0
    { onPort with
      power := power, attachment := .attached netA, inFlight := some ⟨⟨kind, .host⟩, 0⟩,
      restartCount := count } idle

theorem witness_port_fails :
    (PortUnused (timedOutOn .on .scan 0) .p0
      ∧ ((timedOutOn .on .scan 0).port .p0).inFlight = some ⟨⟨.scan, .host⟩, 0⟩)
    ∧ (PortUnused (withP0 { talkPort with silenceTimer := some 0 } idle) .p0
      ∧ ((withP0 { talkPort with silenceTimer := some 0 } idle).port .p0).silenceTimer = some 0)
    ∧ (PortUnused idle .p0 ∧ (idle.port .p0).power = .on)
    ∧ (PortUnused (timedOutOn .waking (.wake .restart) 2) .p0
      ∧ ((timedOutOn .waking (.wake .restart) 2).port .p0).inFlight = some ⟨⟨.wake .restart, .host⟩, 0⟩
      ∧ min 3 (((timedOutOn .waking (.wake .restart) 2).port .p0).restartCount + 1) = 3)
    ∧ (PortUnused (timedOutOn .waking (.wake .demand) 1) .p0
      ∧ min 3 (((timedOutOn .waking (.wake .demand) 1).port .p0).restartCount + 1) = 2) := by
  unfold PortUnused
  decide +kernel

/-- P0 asleep by an order whose time is up, with a queue. -/
def sleepingWith (queue : List Order) : State :=
  withP0 { onPort with power := .sleeping, inFlight := some ⟨⟨.sleep, .port⟩, 0⟩, queue := queue } idle

theorem witness_sleep_ends : ((sleepingWith []).port .p0).power = .sleeping
    ∧ ((sleepingWith []).port .p0).inFlight = some ⟨⟨.sleep, .port⟩, 0⟩ ∧ ((sleepingWith []).port .p0).queue = []
    ∧ (sleepingWith []).campaign.callbackPort ≠ some .p0
    ∧ ((sleepingWith [⟨.scan, .host⟩]).port .p0).queue ≠ []
    ∧ ((sleepingWith [⟨.attach 0 netA, .host⟩]).port .p0).queue.any Order.registers = true := by
  decide +kernel

/-- P0 with its tick's note, the supply and policies as given. -/
def tickedP0 (c : PortContext) (policy : Policy) : State :=
  { withP0 { c with tickDue := true } idle with cfg := { testConfig with policies := allPorts policy } }

theorem witness_ports_act :
    (((tickedP0 { PortContext.afterReset .fault with restartTimer := some 0 } .onDemand).port .p0).tickDue = true
      ∧ ((tickedP0 { PortContext.afterReset .fault with restartTimer := some 0 } .onDemand).port .p0).restartTimer
        = some 0
      ∧ ((tickedP0 { PortContext.afterReset .fault with restartTimer := some 0 } .onDemand).port .p0).power = .fault
      ∧ (tickedP0 onPort .onDemand).supply.mode = .normal ∧ (tickedP0 onPort .onDemand).supply.halt = false
      ∧ (tickedP0 onPort .onDemand).campaign.callbackPort ≠ some .p0)
    ∧ (((tickedP0 onPort .onDemand).port .p0).tickDue = true
      ∧ ((tickedP0 onPort .onDemand).port .p0).inFlight = none
      ∧ ((tickedP0 onPort .onDemand).port .p0).call = .none
      ∧ ((tickedP0 onPort .onDemand).port .p0).queue = [] ∧ ((tickedP0 onPort .onDemand).port .p0).power = .on
      ∧ inCampaignUse (tickedP0 onPort .onDemand) .p0 = false
      ∧ (tickedP0 onPort .onDemand).cfg.policies.get .p0 = .onDemand)
    ∧ ((tickedP0 (PortContext.afterReset .off) .keepWarm).port .p0).power = .off
    ∧ (tickedP0 (PortContext.afterReset .off) .keepWarm).cfg.policies.get .p0 = .keepWarm
    ∧ (tickedP0 (PortContext.afterReset .off) .keepWarm).supply.mode = .normal := by decide +kernel

/-! ## Witnesses: Survey Timer and Supply Monitor -/

theorem witness_period_end :
    ({ idle with survey := { idle.survey with periodEndDue := true, periodEnds := 65535 } } : State).survey.periodEndDue
      = true
    ∧ idle.campaign.state ≠ .talk := by decide

/-- In TALK on P0 with a period end due: P1's network is named as standby, READY or to be attached; with a call
on P1, and with every entry on P0, none is made. -/
theorem witness_prompt :
    (withP0 talkPort (campaigning talking)).campaign.standby = none
    ∧ (withP0 talkPort (campaigning talking)).cfg.tuning.standbyEnable = true
    ∧ (withP0 talkPort (campaigning talking)).supply.mode = .normal
    ∧ rescore idle.cfg.preferences { entryB with failures := entryB.failures - 1 } = entryB
    ∧ standbyCandidate (withP0 talkPort (campaigning talking)) (some .p0) = some 1
    ∧ (withP0 talkPort (campaigning talking)).table.entry 1 = some entryB
    ∧ (idle.port entryB.port).attachment = .attached entryB.net ∧ (idle.port entryB.port).call = .none
    ∧ entryB.holds.standby = false
    ∧ standbyCandidate { idle with table := NetTable.free.putEntry 0 (some entryA) } (some .p0) = none := by
  decide +kernel

/-- C0's match is due. -/
def matching (s : State) : State := { s with survey := { s.survey with matchDue := ⟨true, false, false, false⟩ } }

/-- Four orders queued. -/
def fourScans : List Order := List.replicate 4 ⟨.scan, .host⟩

theorem witness_matches : (matching idle).supply.mode = .normal ∧ (matching idle).campaign.state = .idle
    ∧ (matching idle).survey.matchDue.get .p0 = true ∧ PortFree (matching idle) .p0
    ∧ ((matching (withP0 (PortContext.afterReset .disabled) idle)).port .p0).power = .disabled
    ∧ ((matching (withP0 (PortContext.afterReset .dead) idle)).port .p0).power = .dead
    ∧ (((matching { idle with supply := { idle.supply with mode := .shed } }).port .p0).power.usable = true
      ∧ (matching { idle with supply := { idle.supply with mode := .shed } }).supply.mode = .shed)
    ∧ (((matching (campaigning talking)).port .p0).power.usable = true
      ∧ (matching (campaigning talking)).campaign.state ≠ .idle
      ∧ (matching (campaigning talking)).campaign.callPort = some .p0)
    ∧ 4 ≤ ((matching (withP0 { onPort with queue := fourScans } idle)).port .p0).queue.length
    ∧ (((matching (withP0 (PortContext.afterReset .off) idle)).port .p0).power = .off
      ∧ ((matching (withP0 (PortContext.afterReset .off) idle)).port .p0).queue = []
      ∧ (matching idle).campaign.callbackPort ≠ some .p0)
    ∧ (matching State.reset).survey.matchDue.get .p0 = true
    ∧ ((matching State.reset).port .p0).power = .waking
    ∧ ((matching State.reset).port .p0).queue.length < 4 ∧ (matching State.reset).supply.halt = false
    ∧ ((withP0 { onPort with queue := fourScans.drop 1 } idle).port .p0).queue.length < 4
    ∧ (campaigning (dialling .dial .dialing)).campaign.callPort ≠ some .p1
    ∧ (tryIn .dialing).port ≠ some .p1 := by
  unfold PortFree
  decide +kernel

/-- 09 R171: at the edges of the default thresholds. -/
theorem witness_mode_evaluation : Thresholds.builtin.ordered
    ∧ evaluateMode .builtin .normal 11800 = .normal
    ∧ evaluateMode .builtin .normal 11799 = .low ∧ evaluateMode .builtin .low 11999 = .low
    ∧ evaluateMode .builtin .low 12000 = .normal ∧ evaluateMode .builtin .cutoff 10699 = .cutoff
    ∧ evaluateMode .builtin .cutoff 10700 = .shed ∧ evaluateMode .builtin .normal 10499 = .cutoff := by
  unfold Thresholds.ordered
  decide +kernel

/-- A conversion in progress. -/
def converting (s : State) : State := { s with supply := { s.supply with converting := true } }

theorem witness_conversions : ({ idle with supply := { idle.supply with interval := 0 } } : State).supply.interval = 0
    ∧ SupplyMode.normal ≠ .cutoff ∧ (converting idle).campaign.state ≠ .callback
    ∧ (converting idle).supply.converting = true ∧ (converting idle).supply.halt = false
    ∧ evaluateMode idle.cfg.thresholds idle.supply.mode (4 * (3000#12).toNat) = .normal
    ∧ evaluateMode idle.cfg.thresholds idle.supply.mode (4 * (2900#12).toNat) = .low
    ∧ idle.campaign.standby = none := by decide +kernel

/-- A notice waits in CUTOFF. -/
def cutOff (halt : Bool) : State :=
  { idle with supply := { idle.supply with mode := .cutoff, idleNotices := 1, halt := halt } }

theorem witness_halt : 0 < (cutOff false).supply.idleNotices ∧ (cutOff false).supply.mode = .cutoff
    ∧ (cutOff false).supply.halt = false ∧ (cutOff false).campaign = Campaign.inIdle
    ∧ 0 < (cutOff true).supply.idleNotices
    ∧ (cutOff true).supply.halt = true ∧ (converting (cutOff true)).supply.converting = true
    ∧ (cutOff false).supply.interval ≠ 0
    ∧ ({ (cutOff false).supply with interval := 0 } : Supply).interval = 0
    ∧ (cutOff false).survey.periodEndDue = false ∧ (∀ p, (cutOff false).survey.matchDue.get p = false)
    ∧ (matching (cutOff false)).survey.periodEndDue = false
    ∧ (matching (cutOff false)).survey.matchDue.get .p0 = true
    ∧ (∀ q, portNumber q < portNumber .p0 → (matching (cutOff false)).survey.matchDue.get q = false)
    ∧ ({ idle.survey with periodEndDue := true } : Survey).periodEndDue = true
    ∧ 4 * (2724#12).toNat < idle.cfg.thresholds.cutoff + 400
    ∧ idle.cfg.thresholds.cutoff + 400 ≤ 4 * (2725#12).toNat := by
  refine ⟨?_, ?_, ?_, ?_, ?_, ?_, ?_, ?_, ?_, ?_, ?_, ?_, ?_, ?_, ?_, ?_⟩
  all_goals first | decide +kernel | (intro q; cases q <;> decide +kernel)

/-- A conversion start that the last tick made is taken before the entry to HALT (09 R167, log 31). -/
theorem test_halt_takes_the_conversion_start :
    (nextOf (exec .campaignIdleNotice { cutOff false with
        supply := { (cutOff false).supply with interval := 0, converting := false } })).map
        (fun t => (t.supply.halt, t.supply.converting, t.supply.interval))
      = some (true, true, 60) := by decide +kernel

/-- What the last tick made is taken before the hold (log 31): the period end is counted and reported. -/
theorem test_hold_takes_the_period_end :
    (nextOf (exec .surveyHold { idle with survey := { idle.survey with periodEndDue := true } })).map
        (fun t => (t.survey.periodEnds, t.survey.periodEndDue, t.survey.holdHost))
      = some (1, false, true) := by decide +kernel

/-! ## Witnesses: the lines -/

/-- A link with n reports queued. -/
def queued (n : Nat) : Link :=
  { Link.afterReset with outbound := List.replicate n (.report (.started .host)) }

theorem witness_frames_placed : (queued 0).outbound = [] ∧ (queued 7).outbound.length < 8
    ∧ (queued 7).outbound ≠ [] ∧ (queued 6).outbound.length ≤ 6 ∧ 6 < (queued 7).outbound.length
    ∧ idle.cfg.mask.has .campaign = true ∧ idle.cfg.mask.has .network = false
    ∧ (Report.started .host).cls = some .campaign ∧ (Report.netReturned 0).cls = some .network
    ∧ (Report.start .pin false (allPorts true) .baud19200).cls = none := by decide

theorem witness_host_line : idle.link.rx = .hunting ∧ (List.replicate 199 (0 : Byte)).length ≤ 199
    ∧ LinkHeld { idle with link := queued 8 }
    ∧ ({ idle with link := queued 8 } : State).link.inbound.length < 4
    ∧ crc16 [1, 1] ≠ (0 : Byte) ++ (0 : Byte) ∧ 200 < (0xC9 : Byte).toNat ∧ (0xA5 : Byte) ∉ [(0x01 : Byte), 0xA4]
    ∧ ({ Link.afterReset with rx := .collecting [1] } : Link).rx = .collecting [1] := by
  unfold LinkHeld
  decide +kernel

theorem witness_module_line : (idle.port .p0).rx = .hunting ∧ crc16 [1, 0xA1] ≠ (0 : Byte) ++ (0 : Byte)
    ∧ (0xA0 : Byte).toNat < 0xA1 ∧ 0xAB < (0xAC : Byte).toNat := by decide +kernel

/-- A link whose second frame is a reply, with both flags set. -/
def replyBehind : Link :=
  { queued 1 with
    outbound := [.report (.started .host), .reply ⟨0x81, .ok, false, false, ReportSet.empty, .none⟩]
    frameError := true
    overrun := true }

/-- An accepted RESET's reply leaves. -/
def resetting : Link :=
  { Link.afterReset with
    outbound := [.reply ⟨0x96, .ok, false, false, ReportSet.empty, .none⟩], resetPending := true }

theorem witness_frame_leaves : (queued 0).outbound = [] ∧ replyBehind.resetPending = false
    ∧ replyBehind.inbound = [] ∧ (queued 8).outbound = .report (.started .host) :: .report (.started .host)
      :: List.replicate 6 (.report (.started .host))
    ∧ ({ queued 8 with inbound := [⟨0x10, []⟩] } : Link).inbound = [⟨0x10, []⟩]
    ∧ ({ queued 8 with inbound := [⟨0x10, []⟩, ⟨1, []⟩] } : Link).inbound = [⟨0x10, []⟩] ++ [encodeRequest .status]
    ∧ (queued 8).rx = .hunting ∧ (queued 8).resetPending = false
    ∧ resetting.outbound = .reply ⟨0x96, .ok, false, false, ReportSet.empty, .none⟩ :: []
    ∧ resetting.resetPending = true := by decide

theorem witness_frames_answered :
    LinkHeld { idle with link := { Link.afterReset with
      resetPending := true, inbound := List.replicate 4 ⟨1, []⟩ } }
    ∧ LinkHeld { idle with store := { Store.blank with writing := some testConfig } }
    ∧ LinkReady idle ∧ (0x16 : Byte) < 0x17 := by
  refine ⟨.inr (.inr rfl), .inr (.inl (by simp)), ?_, by decide⟩
  unfold LinkReady
  decide +kernel

/-! ## Witnesses: requests -/

theorem witness_reads : LinkReady idle ∧ (campaigning talking).campaign.attempt = some (tryIn .connected)
    ∧ idle.log.summary = none ∧ (15 : Byte).toNat ≤ 15 ∧ (4 : Byte).toNat ≤ 4 ∧ 15 < (16 : Byte).toNat
    ∧ (23 : Byte).toNat ≤ 23 ∧ (6 : Byte).toNat ≤ 6 ∧ (63 : Byte).toNat < 64 ∧ 7 < (8 : Byte).toNat := by
  unfold LinkReady
  decide +kernel

/-- A standby READY over slot 1 on P1, with its hold. -/
def standbyB : Standby := ⟨1, 1, .p1, .ready⟩

theorem witness_tuning : LinkReady (campaigning { talking with standby := some standbyB })
    ∧ newTuning ⟨some 1000, some 5, some 5000, some 9, some 0, some 7, some 200⟩ Tuning.builtin
      = ⟨780, 10, 3600, 7, false, true, 63⟩
    ∧ newTuning ⟨none, none, none, none, none, none, none⟩ Tuning.builtin = Tuning.builtin
    ∧ idle.campaign.standby = none := by
  unfold LinkReady
  decide +kernel

/-- 09 R169: candidates far too low and far too high come out in order. -/
theorem witness_thresholds : LinkReady idle
    ∧ clampThresholds ⟨9500, 9500, 9500⟩ = ⟨9500, 9300, 9100⟩
    ∧ clampThresholds ⟨16000, 15500, 8000⟩ = ⟨15000, 14800, 9000⟩
    ∧ newThresholds ⟨none, some 65535, none⟩ Thresholds.builtin = ⟨11800, 11600, 10500⟩ := by
  unfold LinkReady
  decide +kernel

/-- SET_SURVEY at both ends of its ranges, with and without policies, held and not. -/
theorem witness_survey : LinkReady idle
    ∧ newSurveyConfig ⟨some 29, some ⟨0, 4095, 4096, 65535⟩, none⟩ none testConfig
      = { testConfig with period := 30, compares := ⟨0, 4095, 4095, 4095⟩ }
    ∧ policiesOf? ⟨1, 2, 1, 2⟩ = some ⟨.keepWarm, .onDemand, .keepWarm, .onDemand⟩
    ∧ policiesOf? ⟨1, 2, 3, 2⟩ = none
    ∧ idle.survey.periodEndDue = false ∧ (matching idle).survey.matchDue.get .p0 = true
    ∧ (matching idle).survey.periodEndDue = false ∧ LinkReady (matching idle)
    ∧ LinkReady { idle with survey := { idle.survey with holdHalt := true } } := by
  unfold LinkReady
  decide +kernel

/-- P0 free, P1 DISABLED, P2 full, P3 free and not named in the first set. -/
def surveyable4 : State :=
  { idle with ports := ⟨onPort, PortContext.afterReset .disabled, { onPort with queue := fourScans }, onPort⟩ }

theorem witness_survey_now : LinkReady surveyable4 ∧ PortFree surveyable4 .p0
    ∧ (surveyable4.port .p1).power = .disabled ∧ 4 ≤ (surveyable4.port .p2).queue.length
    ∧ (7 : Byte) = ((1 : Byte) ||| 2 ||| 4 ||| 0) ∧ 16 ≤ (16 : Byte).toNat
    ∧ nextOf (exec (.surveyNow 7) surveyable4) = some (placeReply 0x88 .ok
        (.surveyNow ⟨true, false, false, false⟩ [(.p1, .unavailable), (.p2, .queueFull)])
        { surveyable4 with ports := { surveyable4.ports with
          p0 := { onPort with inFlight := some ⟨⟨.scan, .host⟩, 60⟩ } } }) := by
  unfold LinkReady PortFree
  decide +kernel

/-- P0 OFF, P1 SLEEPING, P2 WAKING, P3 ON with an order in flight, each with room. -/
def surveyableBusy : State :=
  { idle with ports := ⟨PortContext.afterReset .off, { onPort with power := .sleeping }, startedPort,
      { onPort with inFlight := some ⟨⟨.scan, .start⟩, 9⟩ }⟩ }

/-- 08 R165 at 0, 15 and 17: no port, all four, and a set with a port outside P0 to P3. -/
theorem witness_survey_now_bounds : LinkReady surveyableBusy ∧ PortFree idle .p3
    ∧ (0 : Byte) = ((0 : Byte) ||| 0 ||| 0 ||| 0) ∧ (15 : Byte) = ((1 : Byte) ||| 2 ||| 4 ||| 8)
    ∧ 16 ≤ (17 : Byte).toNat
    ∧ (surveyableBusy.port .p0).power = .off ∧ (surveyableBusy.port .p0).queue = []
    ∧ surveyableBusy.campaign.callbackPort ≠ some .p0
    ∧ (surveyableBusy.port .p1).power = .sleeping ∧ (surveyableBusy.port .p2).power = .waking
    ∧ (surveyableBusy.port .p2).queue.length < 4 ∧ (surveyableBusy.port .p3).inFlight ≠ none
    ∧ LinkReady (cutOff true)
    ∧ nextOf (exec (.surveyNow 0) surveyableBusy) = some (placeReply 0x88 .ok
        (.surveyNow ⟨false, false, false, false⟩ []) surveyableBusy)
    ∧ nextOf (exec (.surveyNow 17) surveyableBusy) = some (placeReply 0x88 .badArgument .none surveyableBusy)
    ∧ (nextOf (exec (.surveyNow 15) surveyableBusy)).map (fun t => (t.port .p0).queue)
      = some [⟨.scan, .host⟩] := by
  unfold LinkReady PortFree
  decide +kernel

theorem witness_steps : LinkReady idle ∧ planBusy (campaigning talking) = true ∧ idle.campaign.state = .idle
    ∧ ([⟨2, 1, 5, 7, 7⟩, ⟨1, 0, 7, 9, 7⟩] : List StepBytes).map stepOf?
      = [.wait 5 true, .dial 7 ⟨true, false, false⟩ 7 false].map some
    ∧ stepOf? ⟨1, 0, 8, 0, 1⟩ = none ∧ (63 : PlanSlot).val = (63 : Byte).toNat
    ∧ (storeSteps 63 [.wait 5 true, .ret] testConfig.steps).get 0 = .ret := by
  unfold LinkReady
  decide +kernel

theorem witness_destination_and_box : LinkReady idle ∧ (List.replicate 20 (0x39 : Byte)).all dialChar = true
    ∧ 20 < (List.replicate 21 (0x39 : Byte)).length ∧ dialChar 0x3A = false ∧ dialChar 0x2F = false
    ∧ (List.replicate 17 (0x7E : Byte)).all printable = true ∧ printable 0x7F = false ∧ printable 0x1F = false := by
  unfold LinkReady
  decide +kernel

theorem witness_preferences : LinkReady idle
    ∧ preferencesOf? [⟨999999, 0xFF⟩, ⟨0, 3⟩] = some [⟨999999, .bar⟩, ⟨0, .weight 3⟩]
    ∧ preferencesOf? [⟨1000000, 0⟩] = none ∧ preferencesOf? [⟨0, 4⟩] = none ∧ preferencesOf? [⟨0, 254⟩] = none := by
  unfold LinkReady
  decide +kernel

theorem witness_report_requests : LinkReady idle ∧ (63 : Byte).toNat < 64 ∧ 64 ≤ (64 : Byte).toNat := by
  unfold LinkReady
  decide +kernel

/-- Slot 1 is held. -/
def heldB : State :=
  { idle with table := idle.table.onEntry 1 fun e => { e with holds := { e.holds with callback := true } } }

theorem witness_clear : LinkReady heldB
    ∧ ((List.finRange 24).filter fun i =>
      (heldB.table.entry i).any fun e => decide (e.holds = Holds.empty)).length = 1
    ∧ ((List.finRange 24).filter fun i =>
      (heldB.table.entry i).any fun e => decide (e.holds ≠ Holds.empty)).length = 1 := by
  unfold LinkReady
  decide +kernel

theorem witness_port_control : LinkReady idle ∧ (0 : Byte).toNat = portNumber .p0 ∧ (3 : Byte).toNat = portNumber .p3
    ∧ PortUnused idle .p0 ∧ (idle.port .p0).power ≠ .disabled ∧ idle.board.fitted.get .p0 = true
    ∧ ((withP0 (PortContext.afterReset .dead) idle).port .p0).power = .dead
    ∧ ({ idle with board := ⟨⟨false, true, true, true⟩, .baud19200⟩ } : State).board.fitted.get .p0 = false
    ∧ 3 < (4 : Byte).toNat := by
  unfold LinkReady PortUnused
  decide +kernel

theorem witness_commit_and_reset : LinkReady idle
    ∧ ({ idle with store := { Store.blank with writing := some testConfig } } : State).store.writing = some testConfig
    ∧ idle.link.outbound.length < 8 ∧ idle.link.inbound = [] ∧ idle.store.writing = none
    ∧ (campaigning talking).campaign.state = .talk ∧ LinkReady (campaigning talking) := by
  unfold LinkReady
  decide +kernel

/-- A campaign in a release of the reason. -/
def releasing (r : ReleaseReason) : Campaign :=
  { dialling .release .releasing with attempt := some { tryIn .releasing with release := some r } }

theorem witness_end_call : LinkReady idle ∧ LinkReady (campaigning (dialling .prepare .preparing))
    ∧ LinkReady (campaigning (releasing .ringTimeout)) ∧ LinkReady (campaigning (releasing (.endCall true)))
    ∧ (LinkReady ringing ∧ ringing.campaign.state = .ring ∧ ringing.campaign.route = none)
    ∧ (LinkReady (withP0 talkPort (campaigning talking)) ∧ talking.callEntry = some 0 ∧ talking.standby = none)
    ∧ ({ talking with standby := some standbyB } : Campaign).standby = some standbyB
    ∧ talking.callPort = some .p0 ∧ waiting.standby = none
    ∧ (window 9).standby = none
    ∧ LinkReady (campaigning waiting) ∧ LinkReady (campaigning (window 9)) := by
  unfold LinkReady
  decide +kernel

/-! ## Witnesses: notices -/

theorem witness_discarded : (Instr.wakeDone .p0).isNoticeOn .p0 ∧ (Instr.unknownNotice .p0 0 []).isNoticeOn .p0
    ∧ ((withP0 (PortContext.afterReset .off) idle).port .p0).power = .off
    ∧ (idle.port .p0).inFlight = none ∧ (idle.port .p0).call = .none
    ∧ ((withP0 talkPort idle).port .p0).call ≠ .none
    ∧ 8 < (List.replicate 9 (⟨0, 1, 0, 0⟩ : NetworkGroup)).length := by
  refine ⟨.inl rfl, ?_, by decide, by decide, by decide, by decide, by decide⟩
  simp [Instr.isNoticeOn]

/-- P0 with an order in flight and a queue. -/
def inFlightOn (power : Power) (o : Order) (queue : List Order) (s : State) : State :=
  withP0 { onPort with power := power, inFlight := some ⟨o, 3⟩, queue := queue } s

theorem witness_orders_complete :
    ((inFlightOn .waking ⟨.wake .demand, .port⟩ [⟨.scan, .start⟩] idle).port .p0).power = .waking
    ∧ ((inFlightOn .waking ⟨.wake .restart, .port⟩ [] idle).port .p0).inFlight = some ⟨⟨.wake .restart, .port⟩, 3⟩
    ∧ ((inFlightOn .waking ⟨.wake .demand, .port⟩ [⟨.scan, .start⟩] idle).port .p0).queue = [⟨.scan, .start⟩]
    ∧ ((inFlightOn .waking ⟨.wake .restart, .port⟩ [] idle).port .p0).queue = []
    ∧ ((inFlightOn .on ⟨.detach, .campaign (.attempt 0)⟩ [] idle).port .p0).power = .on
    ∧ ((inFlightOn .on ⟨.detach, .campaign (.attempt 0)⟩ [] idle).port .p0).queue = []
    ∧ idle.campaign.callbackPort ≠ some .p0
    ∧ ((inFlightOn .on ⟨.sendData ⟨[], [], 0, 1, 0⟩, .campaign (.call 0)⟩ []
        (campaigning { talking with attempt := some { tryIn .connected with data := some .pending } })).port .p0).inFlight
      = some ⟨⟨.sendData ⟨[], [], 0, 1, 0⟩, .campaign (.call (tryIn .connected).id)⟩, 3⟩ := by
  decide +kernel

/-- A SCAN of start-up in flight on P0. -/
def scanning : State := inFlightOn .on ⟨.scan, .start⟩ [] idle

/-- Entries of the test table differ in their networks. -/
theorem scanning_distinct : scanning.table.distinct := by
  have two : ∀ i e, scanning.table.entry i = some e → (i = 0 ∧ e = entryA) ∨ (i = 1 ∧ e = entryB) := by
    decide +kernel
  intro i j a b ha hb hp _
  rcases two i a ha with ⟨rfl, rfl⟩ | ⟨rfl, rfl⟩ <;> rcases two j b hb with ⟨rfl, rfl⟩ | ⟨rfl, rfl⟩
  · rfl
  · exact absurd hp (by decide)
  · exact absurd hp (by decide)
  · rfl

theorem witness_scan : (scanning.port .p0).power = .on ∧ (scanning.port .p0).queue = []
    ∧ scanning.campaign.standby = none
    ∧ (scanning.port .p0).inFlight = some ⟨⟨.scan, .start⟩, 3⟩ ∧ scanning.table.distinct
    ∧ [(⟨23410, 2, 0xB0, 10⟩ : NetworkGroup)].filterMap sampleOfGroup = [⟨netA, -80, some 10⟩]
    ∧ (scanning.table.find .p0 netA).isSome = true
    ∧ scanning.table.find .p0 netB = none ∧ scanning.table.entry 2 = none
    ∧ (∀ i, i < 2 → scanning.table.entry i ≠ none) := by
  refine ⟨by decide, by decide, by decide, by decide, scanning_distinct, ?_⟩
  decide +kernel

/-- An entry on P1 of a network of its own for each slot. -/
def ownEntry (state : EntryState) (score : Nat) (i : TableSlot) : Entry :=
  { entryB with net := ⟨i.val, .packet⟩, state := state, score := score }

/-- Every slot holds its own network, in the state and with the score given. -/
def full (state : EntryState) (score : Nat) (who : Submitter) : State :=
  { inFlightOn .on ⟨.scan, who⟩ [] idle with
    table := { NetTable.free with
      slots := ⟨((List.finRange 24).map fun i => some (ownEntry state score i)).toArray, by simp⟩ } }

/-- Networks given so differ. -/
theorem full_distinct (state : EntryState) (score : Nat) (who : Submitter) :
    (full state score who).table.distinct := by
  have own : ∀ i, (full state score who).table.entry i = some (ownEntry state score i) := by
    intro i
    simp [full, NetTable.entry, Vector.get]
    rfl
  intro i j a b ha hb _ hn
  rw [own] at ha hb
  rw [← Option.some.inj ha, ← Option.some.inj hb] at hn
  exact Fin.ext (congrArg NetworkId.operator hn)

/-- A network listed twice; no FREE slot with a LOST entry, with a SEEN one below the floor, and with neither;
the tag of a match's SCAN, the present one and an older one. -/
theorem witness_scan_full :
    [(⟨23410, 2, 0xB0, 10⟩ : NetworkGroup), ⟨23410, 2, 0xA0, 10⟩].filterMap sampleOfGroup
      = [⟨netA, -80, some 10⟩, ⟨netA, -96, some 10⟩]
    ∧ (∀ i, (full .lost 300 .start).table.entry i ≠ none)
    ∧ (∀ i x, (full .lost 300 .start).table.entry i = some x → x.age = 10 ∧ x.holds = Holds.empty)
    ∧ (full .lost 300 .start).table.find .p0 netA = none
    ∧ (∀ i x, (full .seen 0 .start).table.entry i = some x → x.state = .seen ∧ x.score < Tuning.builtin.floor)
    ∧ (∀ i x, (full .seen 780 .start).table.entry i = some x → x.state = .seen
      ∧ Tuning.builtin.floor ≤ x.score ∧ x.port ≠ .p0)
    ∧ ((full .lost 300 (.survey 0)).port .p0).inFlight = some ⟨⟨.scan, .survey 0⟩, 3⟩
    ∧ (full .lost 300 (.survey 0)).survey.periodEnds = 0
    ∧ ({ idle.survey with records := ⟨.submitted, .none, .none, .none⟩ } : Survey).records.get .p0 = .submitted
    ∧ idle.survey.records.get .p0 ≠ .submitted := by decide +kernel

/-- In RESURVEY by the step at slot 1 with its SCAN on P0 in flight and the ports awaited given. -/
def resurveying (awaited : PerPort Bool) : State :=
  { inFlightOn .on ⟨.scan, .campaign (.resurvey 5)⟩ []
      (campaigning { waiting with
        state := .resurvey, waitTimer := none, resurvey := some ⟨5, .step, awaited⟩ }) with
    cfg := { testConfig with steps := (testConfig.steps.set 1 (.resurvey true)).set 2 (.wait 7 true) } }

theorem witness_resurvey :
    (resurveying ⟨true, false, false, false⟩).campaign.resurvey = some ⟨5, .step, ⟨true, false, false, false⟩⟩
    ∧ ((resurveying ⟨true, false, false, false⟩).port .p0).inFlight
      = some ⟨⟨.scan, .campaign (.resurvey 5)⟩, 3⟩
    ∧ (resurveying ⟨true, false, false, false⟩).campaign.state = .resurvey
    ∧ (resurveying ⟨true, false, false, false⟩).campaign.cursor = some 1
    ∧ (resurveying ⟨true, false, false, false⟩).cfg.steps.get 1 = .resurvey true
    ∧ (resurveying ⟨true, false, false, false⟩).cfg.steps.get (1 + 1) = .wait 7 true
    ∧ (⟨true, true, false, false⟩ : PerPort Bool).get .p1 = true
    ∧ (resurveying ⟨true, false, false, false⟩).campaign.standby = none
    ∧ (resurveying ⟨true, false, false, false⟩).table = scanning.table := by decide +kernel

/-- A PREPARING try's ATTACH in flight. -/
def attaching : State :=
  inFlightOn .on ⟨.attach 0 netA, .campaign (.attempt 0)⟩ [] (campaigning (dialling .prepare .preparing))

/-- The standby's ATTACH in flight on P0, for slot 1. -/
def attachingStandby : State :=
  inFlightOn .on ⟨.attach 1 netB, .campaign (.standby 1)⟩ []
    (campaigning { talking with standby := some ⟨1, 1, .p0, .preparing⟩ })

theorem witness_attach : attaching.campaign.attempt = some (tryIn .preparing)
    ∧ (attaching.port .p0).inFlight = some ⟨⟨.attach 0 netA, .campaign (.attempt (tryIn .preparing).id)⟩, 3⟩
    ∧ attaching.campaign.state = .prepare ∧ (tryIn .preparing).stage = .preparing
    ∧ (tryIn .preparing).port = some .p0 ∧ attaching.campaign.cancelPending = false
    ∧ (attaching.port .p0).power = .on ∧ (attaching.port .p0).call = .none ∧ (attaching.port .p0).queue = []
    ∧ attachingStandby.campaign.callbackPort ≠ some .p0 ∧ (attachingStandby.port .p0).power = .on
    ∧ (attachingStandby.port .p0).queue = []
    ∧ attaching.campaign.standby = none ∧ attaching.campaign.route = none ∧ attaching.supply.halt = false
    ∧ attachingStandby.campaign.standby = some ⟨1, 1, .p0, .preparing⟩
    ∧ (attachingStandby.port .p0).inFlight = some ⟨⟨.attach 1 netB, .campaign (.standby 1)⟩, 3⟩ := by
  decide +kernel

/-- A DIAL in flight on P0. -/
def dialled : State :=
  withP0 { onPort with
      attachment := .attached netA, call := .dialing,
      inFlight := some ⟨⟨.dial [0x31, 0x31, 0x32], .campaign (.attempt 0)⟩, 9⟩ }
    (campaigning (dialling .dial .dialing))

/-- In DIAL with the try's DIAL in flight: HANGUP joins the head of the queue, and the call stays DIALING. -/
theorem witness_end_call_in_dial : LinkReady dialled ∧ dialled.campaign.state = .dial
    ∧ dialled.campaign.attempt = some (tryIn .dialing) ∧ (tryIn .dialing).port = some .p0
    ∧ dialled.campaign.route = none ∧ (dialled.port .p0).call = .dialing
    ∧ HungUp dialled .p0 0 { dialled.port .p0 with queue := [⟨.hangup, .campaign (.call 0)⟩] } :=
  ⟨by unfold LinkReady; decide +kernel, rfl, rfl, rfl, rfl, rfl,
    .inr ⟨rfl, rfl, by decide +kernel, [], [], [], .inl ⟨by decide +kernel, rfl⟩, rfl, by simp, by simp, rfl⟩⟩

/-- The same with a queue that is full of SCANs, one of them the host's, with a REFUSE ahead. -/
theorem witness_end_call_full :
    HungUp (withP0 { dialled.port .p0 with
        queue := [⟨.refuse, .campaign .offered⟩, ⟨.scan, .start⟩, ⟨.scan, .host⟩,
          ⟨.scan, .campaign (.resurvey 3)⟩] } dialled) .p0 0
      { dialled.port .p0 with
        queue := [⟨.refuse, .campaign .offered⟩, ⟨.hangup, .campaign (.call 0)⟩, ⟨.scan, .start⟩,
          ⟨.scan, .campaign (.resurvey 3)⟩] } :=
  .inr ⟨rfl, rfl, by decide +kernel, _, [⟨.refuse, .campaign .offered⟩], [⟨.scan, .start⟩,
    ⟨.scan, .campaign (.resurvey 3)⟩], .inr ⟨rfl, [⟨.refuse, .campaign .offered⟩, ⟨.scan, .start⟩],
    ⟨.scan, .host⟩, [⟨.scan, .campaign (.resurvey 3)⟩], rfl, rfl, .inl rfl, by decide, rfl⟩, rfl, by decide,
    by decide, rfl⟩

/-- Ringing with nothing in flight, and in TALK. -/
theorem witness_end_call_free :
    HungUp ringing .p0 0 { ringing.port .p0 with
      call := .clearing, silenceTimer := none, inFlight := some ⟨⟨.hangup, .campaign (.call 0)⟩, 10⟩ }
    ∧ HungUp (withP0 talkPort (campaigning talking)) .p0 0 { talkPort with
      call := .clearing, silenceTimer := none, inFlight := some ⟨⟨.hangup, .campaign (.call 0)⟩, 10⟩ } := by
  refine ⟨.inl ⟨?_, by decide, rfl⟩, .inl ⟨?_, by decide, rfl⟩⟩ <;> unfold PortFree <;> decide +kernel

/-- Ringing, with standbys turned off. -/
def quiet : State :=
  { ringing with cfg := { testConfig with tuning := { Tuning.builtin with standbyEnable := false } } }

theorem witness_call_progress : dialled.campaign.attempt = some (tryIn .dialing)
    ∧ (dialled.port .p0).inFlight
      = some ⟨⟨.dial [0x31, 0x31, 0x32], .campaign (.attempt (tryIn .dialing).id)⟩, 9⟩
    ∧ dialled.campaign.state = .dial ∧ (tryIn .dialing).stage = .dialing ∧ (tryIn .dialing).port = some .p0
    ∧ (dialled.port .p0).power = .on ∧ (dialled.port .p0).queue = [] ∧ dialled.supply.halt = false
    ∧ ringing.campaign.state = .ring ∧ (tryIn .ringing).stage = .ringing ∧ (tryIn .ringing).entry = some 0
    ∧ (quiet.port .p0).call = .alerting ∧ (quiet.port .p0).power = .on ∧ (quiet.port .p0).queue = []
    ∧ quiet.supply.halt = false ∧ quiet.cfg.tuning.standbyEnable = false
    ∧ quiet.campaign.attempt = some (tryIn .ringing)
    ∧ (dialled.port .p0).call = .dialing ∧ dialled.campaign.route = none
    ∧ ringing.campaign.attempt = some (tryIn .ringing) ∧ (ringing.port .p0).inFlight = none
    ∧ ringing.campaign.recovery = none := by decide +kernel

/-- An answered call on P0 whose ANSWER is in flight. -/
def answeredCall : State :=
  withP0 { onPort with
      attachment := .attached netA, call := .answering, inFlight := some ⟨⟨.answer, .campaign (.call 0)⟩, 9⟩ }
    (campaigning { dialling .talk .answering with callEntry := some 0, callPort := some .p0 })

/-- CONNECTED straight out of DIALING, in a recovery, and of an answered call. -/
theorem witness_connected : { dialled with cfg := quiet.cfg }.cfg.tuning.standbyEnable = false
    ∧ (dialled.port .p0).inFlight
      = some ⟨⟨.dial [0x31, 0x31, 0x32], .campaign (.attempt (tryIn .dialing).id)⟩, 9⟩
    ∧ (tryIn .dialing).entry = some 0 ∧ dialled.campaign.recovery = none
    ∧ { dialled.campaign with recovery := some ⟨1, some .p1, some netB, true⟩ }.recovery
      = some ⟨1, some .p1, some netB, true⟩
    ∧ answeredCall.campaign.state = .talk ∧ answeredCall.campaign.attempt = some (tryIn .answering)
    ∧ (answeredCall.port .p0).call = .answering ∧ answeredCall.campaign.route = none
    ∧ (answeredCall.port .p0).inFlight = some ⟨⟨.answer, .campaign (.call (tryIn .answering).id)⟩, 9⟩
    ∧ (answeredCall.port .p0).queue = [] ∧ answeredCall.supply.halt = false := by decide +kernel

/-- In TALK on P0. -/
def talk : State := withP0 talkPort (campaigning talking)

theorem witness_far_end_clears : talk.campaign.state = .talk ∧ talk.campaign.attempt = some (tryIn .connected)
    ∧ (tryIn .connected).stage = .connected ∧ (tryIn .connected).port = some .p0
    ∧ (tryIn .connected).origin = .plan ∧ (tryIn .connected).entry = some 0
    ∧ (tryIn .connected).number = some 1 ∧ talk.campaign.callEntry = some 0 ∧ talk.campaign.standby = none
    ∧ talk.campaign.cancelPending = false ∧ talk.cfg.tuning.callbackWindow ≠ 0 ∧ talk.supply.mode ≠ .cutoff
    ∧ (talk.port .p0).power = .on ∧ (talk.port .p0).call = .connected ∧ (talk.port .p0).inFlight = none
    ∧ (talk.port .p0).queue = [] ∧ (talk.port .p0).attachment = .attached entryA.net
    ∧ talk.table.entry 0 = some entryA ∧ talk.table.find .p0 entryA.net = some 0
    ∧ talk.log.records.length < 16
    ∧ 16 ≤ ({ talk with log := { talk.log with
        records := List.replicate 16 (⟨1, .plan, some 0, some 1, some .p0, some netA, some 440, .cleared, some 9, some 5, none⟩) } } : State).log.records.length := by
  decide +kernel

/-- In TALK with a SEND_DATA in flight that a call before it left on P0. -/
def talkBehindData : State :=
  withP0 { talkPort with inFlight := some ⟨⟨.sendData ⟨[0x41], [], 12000, 1, 0⟩, .campaign (.call 99)⟩, 3⟩ }
    (campaigning talking)

theorem witness_far_end_clears_data : ∃ m who n, (talkBehindData.port .p0).inFlight = some ⟨⟨.sendData m, who⟩, n⟩ :=
  ⟨_, _, _, rfl⟩

/-- The end of the call ends its try, whosever the SEND_DATA was, and the route's end is reported (03 R64, R81). -/
theorem test_left_send_data :
    (nextOf (exec (.callEnded .p0 1 9) talkBehindData)).map (fun t => (t.campaign, t.link))
      = (nextOf (exec (.callEnded .p0 1 9) talk)).map (fun t => (t.campaign, t.link))
    ∧ ((nextOf (exec (.callEnded .p0 1 9) talkBehindData)).bind fun t => t.link.outbound.getLast?)
      = some (.report (.state .callback (some .plan) (some .button) none none none)) := by
  decide +kernel

/-- A DIAL step's try fails on P0: its DIAL and its ATTACH in flight; the next network is on P1, and with one try
left the step fails. -/
theorem witness_try_fails : dialled.campaign.dialStep = some ⟨0, 1, ClassSet.all, 3, [], false⟩
    ∧ dialled.campaign.route = none ∧ dialled.campaign.callbackPort ≠ some .p0
    ∧ dialled.campaign.standby = none ∧ dialled.campaign.cancelPending = false
    ∧ (tryIn .dialing).number = some 1 ∧ (tryIn .dialing).origin = .plan
    ∧ firstEligible
        { dialled with
          table := dialled.table.onEntry 0 fun y =>
            { rescore dialled.cfg.preferences { y with failures := 1, lastCause := some 9 } with
              holds := { y.holds with attempt := false } }
          campaign := { dialled.campaign with dialStep := some ⟨0, 1, ClassSet.all, 2, [0], false⟩ } }
        ClassSet.all = some 1
    ∧ dialled.table.entry 1 = some entryB ∧ PortFree dialled entryB.port ∧ entryB.port ≠ .p0
    ∧ (dialled.port entryB.port).attachment = .attached entryB.net ∧ (dialled.port entryB.port).call = .none
    ∧ (dialled.cfg.directory.get 1).digits ≠ []
    ∧ stepMore (dialled.cfg.steps.get 0) = some true ∧ dialled.cfg.steps.get (0 + 1) = .wait 20 true
    ∧ (ringing.port .p0).inFlight = none ∧ (2 : Byte) ≠ 1
    ∧ (attaching.port .p0).inFlight
      = some ⟨⟨.attach 0 netA, .campaign (.attempt (tryIn .preparing).id)⟩, 3⟩ := by
  unfold PortFree
  decide +kernel

/-- Answering in IDLE, without standbys. -/
def answering (c : Campaign) : State :=
  { campaigning c with
    cfg := { testConfig with tuning := { Tuning.builtin with answerInIdle := true, standbyEnable := false } } }

theorem witness_incoming :
    (PortFree idle .p0 ∧ (idle.port .p0).call = .none ∧ idle.campaign.standby = none
      ∧ idle.campaign.route = none ∧ idle.campaign.state = .idle ∧ idle.cfg.tuning.answerInIdle = false)
    ∧ (PortFree (answering Campaign.inIdle) .p0
      ∧ (answering Campaign.inIdle).supply.mode ≠ .cutoff
      ∧ (answering Campaign.inIdle).cfg.tuning.answerInIdle = true
      ∧ (answering Campaign.inIdle).cfg.tuning.standbyEnable = false
      ∧ ((answering Campaign.inIdle).port .p0).attachment = .attached entryA.net
      ∧ (answering Campaign.inIdle).table.find .p0 entryA.net = some 0
      ∧ (answering Campaign.inIdle).table.entry 0 = some entryA)
    ∧ (PortFree (answering (window 9)) .p0 ∧ (answering (window 9)).campaign.state = .callback
      ∧ (answering (window 9)).campaign.standby = none ∧ (answering (window 9)).campaign.route = none
      ∧ (answering (window 9)).table.find .p0 entryA.net = some 0)
    ∧ (PortFree (campaigning { waiting with presses := 2 }) .p0
      ∧ (campaigning waiting).campaign.state ≠ .idle ∧ (campaigning waiting).campaign.state ≠ .callback
      ∧ (campaigning { talking with callPort := some .p1, route := some .p1 }).campaign.route ≠ some .p0
      ∧ standbyB.port ≠ .p0)
    ∧ callerDigits (some (List.replicate 20 0x30)) = some (List.replicate 20 0x30)
    ∧ callerDigits (some (List.replicate 21 0x30)) = none ∧ callerDigits (some [0x41]) = none := by
  unfold PortFree
  decide +kernel

theorem witness_connected_port : (talk.port .p0).call = .connected ∧ talk.campaign.callPort = some .p0
    ∧ talk.campaign.callEntry = some 0 ∧ entryA.state = .seen
    ∧ ((withP0 talkPort idle).port .p0).call = .connected ∧ idle.campaign.callPort ≠ some .p0
    ∧ (talk.port .p0).power = .on ∧ talk.table.entry 0 = some entryA
    ∧ (idle.port .p0).power = .on ∧ idle.table.entry 0 = some entryA
    ∧ (idle.port .p0).attachment = .attached netA ∧ idle.table.find .p0 netA = some 0
    ∧ idle.campaign.standby = none ∧ idle.campaign.callbackPort ≠ some .p0 ∧ (idle.port .p0).queue = [] := by
  decide +kernel

/-- In TALK on P0, a standby READY on P1. -/
def talkWithStandby : State := withP0 talkPort (campaigning { talking with standby := some standbyB })

theorem witness_drop : talkWithStandby.campaign.state = .talk ∧ talkWithStandby.campaign.phase = some .plan
    ∧ talkWithStandby.campaign.attempt = some (tryIn .connected) ∧ (tryIn .connected).stage = .connected
    ∧ (tryIn .connected).port = some .p0 ∧ (tryIn .connected).origin = .plan
    ∧ (tryIn .connected).destination = some 1 ∧ (tryIn .connected).entry = some 0
    ∧ talkWithStandby.campaign.callEntry = some 0
    ∧ talkWithStandby.campaign.dialStep = some ⟨0, 1, ClassSet.all, 3, [], false⟩
    ∧ talkWithStandby.campaign.cancelPending = false
    ∧ talkWithStandby.campaign.recoveries < talkWithStandby.cfg.tuning.recoveryLimit
    ∧ talkWithStandby.cfg.tuning.recoveryLimit ≤ 7 ∧ (talkWithStandby.cfg.directory.get 1).digits ≠ []
    ∧ talkWithStandby.campaign.standby = some standbyB ∧ standbyB.status = .ready ∧ standbyB.port ≠ .p0
    ∧ standbyB.entry ≠ 0 ∧ talkWithStandby.table.entry 0 = some entryA
    ∧ talkWithStandby.table.entry standbyB.entry = some entryB ∧ entryB.port = standbyB.port
    ∧ entryB.preference ≠ .bar ∧ PortFree talkWithStandby standbyB.port
    ∧ (talkWithStandby.port standbyB.port).attachment = .attached entryB.net
    ∧ (talkWithStandby.port standbyB.port).call = .none ∧ (talkWithStandby.port .p0).power = .on
    ∧ (talkWithStandby.port .p0).call = .connected ∧ (talkWithStandby.port .p0).inFlight = none
    ∧ (talkWithStandby.port .p0).queue = [] ∧ (3 : Byte) ≠ 1 := by
  unfold PortFree
  decide +kernel

/-- A plan that leads back to a RESURVEY, with every port DISABLED. -/
def endless : State :=
  { idle with
    cfg := { testConfig with steps := (testConfig.steps.set 0 (.resurvey true)).set 1 (.goto 0) }
    ports := allPorts (PortContext.afterReset .disabled) }

theorem witness_endless : endless.armed = true ∧ endless.campaign = Campaign.inIdle
    ∧ endless.supply.mode ≠ .cutoff ∧ endless.supply.halt = false ∧ (endless.port .p3).power = .disabled
    ∧ endless.cfg.tuning.entrySlot = 0 ∧ endless.cfg.steps.get 0 = .resurvey true
    ∧ endless.cfg.steps.get 1 = .goto 0 := by decide +kernel

/-! ## Witnesses: arithmetic, encoding, invariants -/

/-- A record behind another of its operator is passed over (01 R16). -/
theorem witness_score : entryA.preference = .weight 1
    ∧ lookupPreference [⟨1, .bar⟩, ⟨23410, .weight 3⟩, ⟨23410, .bar⟩] 23410 = .weight 3
    ∧ lookupPreference [] 23410 = .weight 1 ∧ scoreOf { entryA with failures := 7, preference := .bar } = 0 := by
  decide +kernel

theorem witness_sample : 0 < entryA.samples ∧ (entryA.sampled [] ⟨netA, -80, none⟩).level = -320
    ∧ (entryA.sampled [] ⟨netA, -81, none⟩).level = -321 ∧ (entryA.sampled [] ⟨netA, -79, none⟩).level = -319
    ∧ (entryA.sampled [] ⟨netA, -79, none⟩).quality = 40 := by decide +kernel

theorem witness_selection : firstEligible idle ClassSet.all = some 0
    ∧ firstEligible idle ⟨false, false, true⟩ = some 1 ∧ firstEligible idle ⟨true, false, false⟩ = none
    ∧ firstEligible idle ⟨false, false, false⟩ = some 0 := by decide +kernel

/-- A refused READ_PLAN: BAD_ARGUMENT, no flags, the pending set, the entry slot; a short one has no contents
(02 R52, 10 R186, R187). -/
theorem test_refused_read_plan :
    ((nextOf (exec (.readPlanDestination 8) idle)).bind fun t => t.link.outbound.head?).map OutFrame.frame
      = some ⟨0x8E, [2, 0, 0, 0]⟩
    ∧ ((nextOf (exec (.unknownRequest 0x0E [4]) idle)).bind fun t => t.link.outbound.head?).map OutFrame.frame
      = some ⟨0x8E, [2, 0, 0, 0]⟩
    ∧ ((nextOf (exec (.unknownRequest 0x0E [1, 0]) idle)).bind fun t => t.link.outbound.head?).map OutFrame.frame
      = some ⟨0x8E, [2, 0, 0]⟩ := by
  decide +kernel

theorem witness_requests_read_back : (Request.loadSteps 0 (List.replicate 39 ⟨3, 0, 0, 0, 0⟩)).wellFormed = true
    ∧ (Request.setBoxRecord (List.replicate 197 0x41) []).wellFormed = true
    ∧ lineBits [0xA5] = [false, true, false, true, false, false, true, false, true, true] := by decide +kernel

theorem witness_bounded : ({ idle with pending := [.status] } : State).link.bounded
    ∧ nextOf (exec .status idle) = some (placeReply 0x81 .ok (.status (statusView idle)) idle) := by
  unfold Link.bounded
  decide +kernel

/-- A full log takes a record by losing its oldest, and a counter at its limit stays there. -/
theorem witness_log_bounded : ({ AttemptLog.empty with counter := 65535 } : AttemptLog).bounded
    ∧ (nextOf (exec (.callEnded .p0 1 16) { talk with
        pending := [], log := { talk.log with counter := 65535 } })).map (fun t => t.log.counter) = some 65535 := by
  unfold AttemptLog.bounded
  decide +kernel

end Sys2Proof.Tests
end

section
/-! The Network Table's arithmetic and order (01): the terms of a score, the averages of a sample, the ranked
order and the answers to a question of the first kind. -/

namespace Sys2Proof.Machine

/-! ## Counts, clamping and truncated quarters -/

theorem clampInt_eq_max_min {lo hi : Int} (n : Int) (h : lo ≤ hi) :
    clampInt lo hi n = max lo (min hi n) := by
  unfold clampInt
  split
  · omega
  · split <;> omega

theorem countUp_eq_min {limit n : Nat} : countUp limit n = min limit (n + 1) := by
  unfold countUp
  split <;> omega

theorem quarter_of_nonneg {d : Int} (h : 0 ≤ d) : Int.tdiv d 4 = d / 4 :=
  Int.tdiv_eq_ediv_of_nonneg h

/-- Truncation toward zero treats both signs alike. -/
theorem quarter_of_nonpos {d : Int} (h : d ≤ 0) : Int.tdiv d 4 = -(-d / 4) := by
  rw [← quarter_of_nonneg (by omega), Int.neg_tdiv, neg_neg]

theorem quarter_eq_zero {d : Int} (hi : d ≤ 3) (lo : -3 ≤ d) : Int.tdiv d 4 = 0 := by
  rcases le_total 0 d with h | h
  · rw [quarter_of_nonneg h]
    omega
  · rw [quarter_of_nonpos h]
    omega

theorem quarter_pos_le {d : Int} (h : 4 ≤ d) : 0 < Int.tdiv d 4 ∧ Int.tdiv d 4 ≤ d := by
  rw [quarter_of_nonneg (by omega)]
  omega

theorem quarter_neg_ge {d : Int} (h : d ≤ -4) : Int.tdiv d 4 < 0 ∧ d ≤ Int.tdiv d 4 := by
  rw [quarter_of_nonpos (by omega)]
  omega

/-! ## The terms of a score (01 R18) -/

theorem levelTerm_eq (level : Int) : levelTerm level = 2 * (max (-480) (min (-240) level) + 480) := by
  rw [levelTerm, clampInt_eq_max_min level (by decide)]

theorem qualityTerm_eq (quality : Int) :
    qualityTerm quality = 3 * (max (-40) (min 80 quality) + 40) / 2 := by
  rw [qualityTerm, clampInt_eq_max_min quality (by decide)]

theorem preferenceTerm_eq {preference : Preference} {p : Int}
    (h : (preference = .bar ∧ p = 0) ∨ ∃ n : Fin 4, preference = .weight n ∧ p = 40 * n.val) :
    preferenceTerm preference = p := by
  rcases h with ⟨rfl, rfl⟩ | ⟨n, rfl, rfl⟩ <;> rfl

theorem agePenalty_eq (age : Nat) : agePenalty age = ((min (age / 16) 160 : Nat) : Int) := by
  unfold agePenalty
  omega

theorem failurePenalty_eq (failures : Nat) : failurePenalty failures = ((90 * failures : Nat) : Int) := by
  unfold failurePenalty
  omega

theorem levelTerm_bounds (level : Int) : 0 ≤ levelTerm level ∧ levelTerm level ≤ 480 := by
  rw [levelTerm_eq]
  omega

theorem qualityTerm_bounds (quality : Int) : 0 ≤ qualityTerm quality ∧ qualityTerm quality ≤ 180 := by
  rw [qualityTerm_eq]
  omega

theorem preferenceTerm_bounds (preference : Preference) :
    0 ≤ preferenceTerm preference ∧ preferenceTerm preference ≤ 120 := by
  cases preference with
  | bar => decide
  | weight n =>
    have hn := n.isLt
    simp only [preferenceTerm]
    omega

theorem agePenalty_bounds (age : Nat) : 0 ≤ agePenalty age ∧ agePenalty age ≤ 160 := by
  rw [agePenalty_eq]
  omega

theorem failurePenalty_nonneg (failures : Nat) : 0 ≤ failurePenalty failures := by
  rw [failurePenalty_eq]
  omega

/-- The terms of stages 3 to 5 come to 780 at most, so stage 8 cuts a sum off at 0 alone. -/
theorem scoreOf_eq_max (e : Entry) :
    ((scoreOf e : Nat) : Int) = max 0 (levelTerm e.level + qualityTerm e.quality
      + preferenceTerm e.preference - agePenalty e.age - failurePenalty e.failures) := by
  have hl := levelTerm_bounds e.level
  have hq := qualityTerm_bounds e.quality
  have hp := preferenceTerm_bounds e.preference
  have ha := agePenalty_bounds e.age
  have hf := failurePenalty_nonneg e.failures
  rw [scoreOf, clampInt_eq_max_min _ (by decide)]
  omega

/-! ## The preference looked up (01 R16) -/

theorem lookupPreference_of_absent {prefs : List PreferenceRecord} {operator : Nat}
    (h : ∀ r ∈ prefs, r.operator ≠ operator) : lookupPreference prefs operator = .weight 1 := by
  have hnone : prefs.find? (fun r => r.operator == operator) = none :=
    List.find?_eq_none.mpr (by simpa using h)
  simp [lookupPreference, hnone]

theorem lookupPreference_of_first {before after : List PreferenceRecord} {r : PreferenceRecord}
    {operator : Nat} (hr : r.operator = operator) (h : ∀ x ∈ before, x.operator ≠ operator) :
    lookupPreference (before ++ r :: after) operator = r.preference := by
  have hfound : (before ++ r :: after).find? (fun x => x.operator == operator) = some r :=
    List.find?_eq_some_iff_append.mpr ⟨by simpa using hr, before, after, rfl, by simpa using h⟩
  simp [lookupPreference, hfound]

/-! ## The ranked order (01 R20) -/

/-- R20's order between entries of different slots. -/
def Outranks (a b : TableSlot × Entry) : Prop :=
  b.2.score < a.2.score
    ∨ (a.2.score = b.2.score ∧ (a.2.age < b.2.age ∨ (a.2.age = b.2.age ∧ a.1 < b.1)))

theorem ranksBefore_iff (a b : TableSlot × Entry) :
    ranksBefore a b = true ↔ b.2.score < a.2.score
      ∨ (a.2.score = b.2.score ∧ (a.2.age < b.2.age ∨ (a.2.age = b.2.age ∧ a.1 ≤ b.1))) := by
  unfold ranksBefore
  by_cases hscore : a.2.score = b.2.score
  · by_cases hage : a.2.age = b.2.age <;> simp [hscore, hage]
  · simp [hscore]

theorem outranks_of_ranksBefore {a b : TableSlot × Entry} (h : ranksBefore a b = true)
    (hslot : a.1 ≠ b.1) : Outranks a b := by
  rw [ranksBefore_iff, Fin.le_def] at h
  rw [ne_eq, Fin.ext_iff] at hslot
  rw [Outranks, Fin.lt_def]
  omega

theorem ranksBefore_total : Std.Total fun a b => ranksBefore a b = true where
  total a b := by
    simp only [ranksBefore_iff, Fin.le_def]
    omega

theorem ranksBefore_trans : IsTrans (TableSlot × Entry) fun a b => ranksBefore a b = true where
  trans a b c hab hbc := by
    rw [ranksBefore_iff, Fin.le_def] at hab hbc ⊢
    omega

theorem NetTable.mem_seenEntries {t : NetTable} {slot : TableSlot} {e : Entry} :
    (slot, e) ∈ t.seenEntries ↔ t.entry slot = some e ∧ e.state = .seen := by
  simp only [NetTable.seenEntries, tableSlots, List.mem_filterMap, List.mem_finRange, true_and]
  constructor
  · rintro ⟨i, hi⟩
    split at hi
    next x hx =>
      split at hi
      next hseen =>
        cases hi
        exact ⟨hx, hseen⟩
      next => cases hi
    next => cases hi
  · rintro ⟨he, hseen⟩
    exact ⟨slot, by simp [he, hseen]⟩

theorem NetTable.nodup_seenEntries (t : NetTable) : (t.seenEntries.map Prod.fst).Nodup := by
  have hslots : t.seenEntries.map Prod.fst
      = tableSlots.filter fun slot => (t.entry slot).any fun e => e.state = .seen := by
    rw [NetTable.seenEntries, List.map_filterMap, ← List.filterMap_eq_filter]
    congr 1
    funext slot
    cases he : t.entry slot with
    | none => simp [Option.guard, he]
    | some e => by_cases hseen : e.state = .seen <;> simp [Option.guard, he, hseen]
  rw [hslots]
  exact (List.nodup_finRange 24).filter _

theorem NetTable.mem_ranked {t : NetTable} {slot : TableSlot} {e : Entry} :
    (slot, e) ∈ t.ranked ↔ t.entry slot = some e ∧ e.state = .seen := by
  rw [NetTable.ranked, List.mem_insertionSort, NetTable.mem_seenEntries]

theorem NetTable.nodup_ranked (t : NetTable) : (t.ranked.map Prod.fst).Nodup :=
  ((List.perm_insertionSort _ _).map Prod.fst).nodup_iff.mpr t.nodup_seenEntries

/-- Sorting gives R20's order up to equal slots, and no slot comes twice. -/
theorem NetTable.pairwise_ranked (t : NetTable) : t.ranked.Pairwise Outranks := by
  have := ranksBefore_total
  have := ranksBefore_trans
  have hsorted : t.ranked.Pairwise fun a b => ranksBefore a b = true :=
    List.pairwise_insertionSort _ _
  have hslots : t.ranked.Pairwise fun a b => a.1 ≠ b.1 := List.pairwise_map.mp t.nodup_ranked
  exact (hsorted.and hslots).imp fun ⟨hrank, hslot⟩ => outranks_of_ranksBefore hrank hslot

/-- An entry of score 0 still ranks, behind every higher and before nothing but scores of 0. -/
theorem NetTable.ranked_of_score_zero {t : NetTable} {slot : TableSlot} {e : Entry}
    (he : t.entry slot = some e) (hseen : e.state = .seen) (hzero : e.score = 0) :
    ∃ before after, t.ranked = before ++ (slot, e) :: after
      ∧ (∀ x ∈ after, x.2.score = 0)
      ∧ ∀ i x, t.entry i = some x → x.state = .seen → 0 < x.score → (i, x) ∈ before := by
  obtain ⟨before, after, hsplit⟩ := List.append_of_mem (NetTable.mem_ranked.mpr ⟨he, hseen⟩)
  have hafter : ∀ x ∈ after, x.2.score = 0 := by
    intro x hx
    have hpair := t.pairwise_ranked
    rw [hsplit, List.pairwise_append, List.pairwise_cons] at hpair
    obtain ⟨-, ⟨hbehind, -⟩, -⟩ := hpair
    rcases hbehind x hx with hlower | ⟨hequal, -⟩
    · exact absurd hlower (by simp [hzero])
    · exact hequal.symm.trans hzero
  refine ⟨before, after, hsplit, hafter, fun i x hx hxseen hpos => ?_⟩
  have hmem := NetTable.mem_ranked.mpr ⟨hx, hxseen⟩
  rw [hsplit, List.mem_append, List.mem_cons] at hmem
  rcases hmem with hbefore | hsame | hbehind
  · exact hbefore
  · cases hsame
    omega
  · exact absurd (hafter _ hbehind) hpos.ne'

/-! ## Eligibility and the first eligible entry (01 R21, R22) -/

theorem ClassSet.admits_iff (f : ClassSet) (c : AccessClass) :
    f.admits c = true ↔ f = ⟨false, false, false⟩ ∨ f.has c = true := by
  rw [ClassSet.admits]
  split
  next hsome =>
    have hne : f ≠ ⟨false, false, false⟩ := by
      rintro rfl
      exact absurd hsome (by decide)
    simp [hne]
  next hnone =>
    have hempty : f = ⟨false, false, false⟩ := by
      cases f
      simpa [and_assoc] using hnone
    simp [hempty]

theorem Power.usable_iff (w : Power) :
    w.usable = true ↔ w ≠ .fault ∧ w ≠ .dead ∧ w ≠ .disabled := by
  cases w <;> decide

theorem inLastResortSet_iff (s : State) (slot : TableSlot) :
    inLastResortSet s slot = true ↔ ∃ e, s.table.entry slot = some e ∧ e.state = .seen
      ∧ e.preference ≠ .bar ∧ (s.port e.port).power.usable = true
      ∧ ∀ d, s.campaign.dialStep = some d → slot ∉ d.excluded := by
  unfold inLastResortSet
  cases s.table.entry slot with
  | none => simp
  | some e => simp [Option.any_eq_false, and_assoc]

theorem eligible_iff (s : State) (filter : ClassSet) (slot : TableSlot) :
    eligible s filter slot = true ↔ ∃ e, s.table.entry slot = some e ∧ e.state = .seen
      ∧ e.preference ≠ .bar ∧ s.cfg.tuning.floor ≤ e.score
      ∧ (filter = ⟨false, false, false⟩ ∨ filter.has e.net.cls = true)
      ∧ (s.port e.port).power ≠ .fault ∧ (s.port e.port).power ≠ .dead
      ∧ (s.port e.port).power ≠ .disabled
      ∧ ∀ d, s.campaign.dialStep = some d → slot ∉ d.excluded := by
  rw [eligible, Bool.and_eq_true, inLastResortSet_iff]
  simp only [Option.any_eq_true, Bool.and_eq_true, decide_eq_true_eq, ClassSet.admits_iff,
    Power.usable_iff]
  constructor
  · rintro ⟨⟨e, he, hseen, hbar, ⟨hfault, hdead, hdisabled⟩, htried⟩, x, hx, hfloor, hclass⟩
    cases he.symm.trans hx
    exact ⟨e, he, hseen, hbar, hfloor, hclass, hfault, hdead, hdisabled, htried⟩
  · rintro ⟨e, he, hseen, hbar, hfloor, hclass, hfault, hdead, hdisabled, htried⟩
    exact ⟨⟨e, he, hseen, hbar, ⟨hfault, hdead, hdisabled⟩, htried⟩, e, he, hfloor, hclass⟩

/-- An eligible slot is SEEN, so the question over the ranked order misses none. -/
theorem exists_ranked_of_eligible {s : State} {filter : ClassSet} {slot : TableSlot}
    (h : eligible s filter slot = true) : ∃ e, (slot, e) ∈ s.table.ranked := by
  obtain ⟨e, he, hseen, -⟩ := (eligible_iff s filter slot).mp h
  exact ⟨e, NetTable.mem_ranked.mpr ⟨he, hseen⟩⟩

theorem firstEligible_eq_none_iff (s : State) (filter : ClassSet) :
    firstEligible s filter = none ↔ ∀ slot, ¬eligible s filter slot = true := by
  rw [firstEligible, List.find?_eq_none]
  constructor
  · intro h slot hslot
    obtain ⟨e, hmem⟩ := exists_ranked_of_eligible hslot
    exact h slot (List.mem_map_of_mem (f := Prod.fst) hmem) hslot
  · exact fun h slot _ => h slot

theorem firstEligible_eq_some_iff (s : State) (filter : ClassSet) (slot : TableSlot) :
    firstEligible s filter = some slot ↔
      ∃ before after e, s.table.ranked = before ++ (slot, e) :: after
        ∧ eligible s filter slot = true ∧ ∀ x ∈ before, ¬eligible s filter x.1 = true := by
  rw [firstEligible, List.find?_map, Option.map_eq_some_iff]
  constructor
  · rintro ⟨⟨i, e⟩, hfound, rfl⟩
    obtain ⟨hfits, before, after, hsplit, hbefore⟩ := List.find?_eq_some_iff_append.mp hfound
    exact ⟨before, after, e, hsplit, hfits, by simpa using hbefore⟩
  · rintro ⟨before, after, e, hsplit, hfits, hbefore⟩
    exact ⟨(slot, e), List.find?_eq_some_iff_append.mpr
      ⟨hfits, before, after, hsplit, by simpa using hbefore⟩, rfl⟩

/-! ## The statements -/

/-- Settles O49: stage by stage, the ranked order's tail of zero scores, the first record of the operator. -/
theorem scoreComputed : Obligations.ScoreComputed := by
  unfold Obligations.ScoreComputed
  refine ⟨?terms, ?zero, ?preference⟩
  case terms =>
    intro e l q p a f hl hq hp ha hf
    have hscore := scoreOf_eq_max e
    have hpbounds := preferenceTerm_bounds e.preference
    rw [levelTerm_eq, qualityTerm_eq, preferenceTerm_eq hp, agePenalty_eq, failurePenalty_eq,
      ← hl, ← hq, ← ha, ← hf] at hscore
    rw [preferenceTerm_eq hp] at hpbounds
    -- what is left is linear in the terms: each range, each saturated end, the range of the sum
    clear hp
    and_intros <;> omega
  case zero =>
    intro t slot e he hseen hzero
    exact NetTable.ranked_of_score_zero he hseen hzero
  case preference =>
    intro prefs e
    refine ⟨lookupPreference prefs e.net.operator, rfl, lookupPreference_of_absent, ?_⟩
    rintro before r after rfl hr hbefore
    exact lookupPreference_of_first hr hbefore

/-- Settles O50: the averages by the sample's case, the movement by the sign of the difference. -/
theorem sampleAveraged : Obligations.SampleAveraged := by
  unfold Obligations.SampleAveraged
  intro prefs m e level quality hfirst hlater habsent hpresent
  have hlevel : averaged e.samples e.level m.level = level := by
    unfold averaged
    split
    next h => exact (hfirst h).symm
    next h => exact (hlater (by omega)).symm
  have hquality : averagedQuality e.samples e.quality m.quality = quality := by
    cases hm : m.quality with
    | none => exact (habsent hm).symm
    | some q => exact (hpresent q hm).symm
  refine ⟨by rw [Entry.sampled, hlevel, hquality, countUp_eq_min], fun hpos => ?_⟩
  rw [hlater hpos]
  refine ⟨fun hi lo => ?still, fun hup => ?up, fun hdown => ?down⟩
  case still => rw [quarter_eq_zero hi lo, add_zero]
  case up =>
    obtain ⟨hmoves, hwithin⟩ := quarter_pos_le hup
    omega
  case down =>
    obtain ⟨hmoves, hwithin⟩ := quarter_neg_ge hdown
    omega

/-- Settles O51: sorting keeps the SEEN entries, each slot once, and puts them in R20's order. -/
theorem rankedOrder : Obligations.RankedOrder := by
  unfold Obligations.RankedOrder
  exact fun t => ⟨fun _ _ => NetTable.mem_ranked, t.nodup_ranked, t.pairwise_ranked⟩

/-- Settles O52: the conditions named are eligibility, and the question finds the first that meets them. -/
theorem selectionAnswer : Obligations.SelectionAnswer := by
  unfold Obligations.SelectionAnswer
  intro s filter fits hfits
  have heligible : ∀ slot, fits slot ↔ eligible s filter slot = true := fun slot =>
    (hfits slot).trans (eligible_iff s filter slot).symm
  simp only [heligible]
  exact ⟨firstEligible_eq_none_iff s filter, firstEligible_eq_some_iff s filter⟩

end Sys2Proof.Machine
end

section
/-! The Supply Monitor's mode evaluation (09): modes compared by their severities, and the evaluation as the current
mode moved into the range from the falling target to the rising one. -/

namespace Sys2Proof.Machine

/-! ## Modes as severities -/

@[simp] theorem SupplyMode.severity_normal : SupplyMode.normal.severity = 0 := rfl

@[simp] theorem SupplyMode.severity_low : SupplyMode.low.severity = 1 := rfl

@[simp] theorem SupplyMode.severity_shed : SupplyMode.shed.severity = 2 := rfl

@[simp] theorem SupplyMode.severity_cutoff : SupplyMode.cutoff.severity = 3 := rfl

theorem SupplyMode.severity_injective : Function.Injective SupplyMode.severity := by
  intro a b h
  cases a <;> cases b <;> trivial

theorem SupplyMode.eq_iff_severity {a b : SupplyMode} : a = b ↔ a.severity = b.severity :=
  SupplyMode.severity_injective.eq_iff.symm

theorem SupplyMode.severity_le (m : SupplyMode) : m.severity ≤ 3 := by
  cases m <;> simp

/-! ## The two targets (09 R170, R171) -/

section
variable {t : Thresholds} (h : t.ordered) (v : Nat)
include h

/-- The falling target is as severe as the thresholds above v are many. -/
theorem le_severity_fallingTarget :
    (1 ≤ (fallingTarget t v).severity ↔ v < t.warn)
    ∧ (2 ≤ (fallingTarget t v).severity ↔ v < t.shed)
    ∧ (3 ≤ (fallingTarget t v).severity ↔ v < t.cutoff) := by
  obtain ⟨hwarn, hshed, -, -⟩ := h
  unfold fallingTarget
  split_ifs <;> simp <;> omega

/-- The same count of thresholds, each raised by 200 mV: the rising conditions nest. -/
theorem le_severity_risingTarget :
    (1 ≤ (risingTarget t v).severity ↔ v < t.warn + 200)
    ∧ (2 ≤ (risingTarget t v).severity ↔ v < t.shed + 200)
    ∧ (3 ≤ (risingTarget t v).severity ↔ v < t.cutoff + 200) := by
  obtain ⟨hwarn, hshed, -, -⟩ := h
  unfold risingTarget
  split_ifs <;> simp <;> omega

theorem severity_fallingTarget_le_risingTarget :
    (fallingTarget t v).severity ≤ (risingTarget t v).severity := by
  have hfall := le_severity_fallingTarget h v
  have hrise := le_severity_risingTarget h v
  have hworst := (fallingTarget t v).severity_le
  omega

/-- The hysteresis: a mode between the two targets stays, one outside them goes to the nearer. -/
theorem severity_evaluateMode (mode : SupplyMode) :
    (evaluateMode t mode v).severity
      = max (fallingTarget t v).severity (min (risingTarget t v).severity mode.severity) := by
  have hle := severity_fallingTarget_le_risingTarget h v
  unfold evaluateMode
  split
  next hfalls => omega
  next hkept =>
    split
    next hrises => omega
    next hstays => omega

end

/-- Settles O17: with modes written as severities, each clause is linear in the three severities and v. -/
theorem modeEvaluation : Obligations.ModeEvaluation := by
  unfold Obligations.ModeEvaluation
  intro t mode v h
  have hfall := le_severity_fallingTarget h v
  have hrise := le_severity_risingTarget h v
  have heval := severity_evaluateMode h v mode
  have hworst := (fallingTarget t v).severity_le
  obtain ⟨hwarn, hshed, -, -⟩ := h
  simp only [SupplyMode.eq_iff_severity, SupplyMode.severity_normal, SupplyMode.severity_low,
    SupplyMode.severity_shed, SupplyMode.severity_cutoff]
  refine ⟨?cutoff, ?shed, ?low, ?normal, ?falls, ?improves, ?nestLow, ?nestShed, ?withinFalling⟩
  case cutoff | shed | low | normal => omega
  case falls | withinFalling => omega
  case improves =>
    intro hnotWorse
    and_intros <;> omega
  case nestLow | nestShed => omega

end Sys2Proof.Machine
end

section
/-! PROOFS. The check value of frames (10 R182).
A shift of the register is injective and maps 0 to 0, so a check value of 0 is undone shift by shift:
the bytes that bring a body to 0 are read off the register before them. -/

namespace Sys2Proof.Machine

/-! ## One shift of the register -/

/-- The feedback word is odd: the bit shifted out comes back as the lowest bit. -/
theorem getLsbD_zero_crcShift (r : Word) : (crcShift r).getLsbD 0 = r.getLsbD 15 := by
  unfold crcShift
  split
  next htop => rw [BitVec.getLsbD_xor, htop]; simp
  next htop => simpa using htop

theorem crcShift_of_top_clear {r : Word} (h : r.getLsbD 15 = false) : crcShift r = r <<< 1 := by
  rw [crcShift, if_neg (ne_true_of_eq_false h)]

theorem crcShift_zero : crcShift 0#16 = 0#16 := crcShift_of_top_clear rfl

/-- The lowest bit of the result says which branch was taken, and the left shift keeps the other bits. -/
theorem crcShift_injective : Function.Injective crcShift := by
  intro a b hab
  have htop : a.getLsbD 15 = b.getLsbD 15 := by
    rw [← getLsbD_zero_crcShift, hab, getLsbD_zero_crcShift]
  have hshift : a <<< 1 = b <<< 1 := by
    simp only [crcShift, htop] at hab
    split at hab
    · exact (BitVec.xor_left_inj _).mp hab
    · exact hab
  apply BitVec.eq_of_getLsbD_eq
  intro i hi
  by_cases hlast : i = 15
  · rw [hlast, htop]
  · have hbit := congrArg (BitVec.getLsbD · (i + 1)) hshift
    simpa [hi, show i + 1 < 16 by omega] using hbit

/-! ## Eight shifts, and a byte -/

theorem crcShift_iterate_injective : Function.Injective crcShift^[8] := crcShift_injective.iterate 8

/-- While a byte moves into the upper eight bits, no 1 is shifted out. -/
theorem crcShift_iterate_byte (b : Byte) {n : Nat} (hn : n ≤ 8) :
    crcShift^[n] (b.setWidth 16) = b.setWidth 16 <<< n := by
  induction n with
  | zero => simp
  | succ n ih =>
    have htop : (b.setWidth 16 <<< n).getLsbD 15 = false := by
      simp [BitVec.getLsbD_of_ge b (15 - n) (by omega)]
    rw [Function.iterate_succ_apply', ih (by omega), crcShift_of_top_clear htop, BitVec.shiftLeft_add]

theorem upper_byte_eq_append (b : Byte) : b.setWidth 16 <<< 8 = b ++ 0#8 := by
  apply BitVec.eq_of_getLsbD_eq
  intro i hi
  simp only [BitVec.getLsbD_append, BitVec.getLsbD_shiftLeft, BitVec.getLsbD_setWidth, BitVec.getLsbD_zero]
  grind

theorem append_xor_upper_byte (hi lo : Byte) : (hi ++ lo) ^^^ (hi ++ 0#8) = lo.setWidth 16 := by
  rw [BitVec.xor_append, BitVec.xor_self, BitVec.xor_zero]
  exact (BitVec.setWidth_eq_append (by decide : 8 ≤ 16)).symm

theorem crcMix_eq (r : Word) (b : Byte) : crcMix r b = r ^^^ (b ++ 0#8) := by
  rw [crcMix, upper_byte_eq_append]

theorem crcByte_eq_iterate (r : Word) (b : Byte) : crcByte r b = crcShift^[8] (r ^^^ (b ++ 0#8)) := by
  rw [← crcMix_eq]
  rfl

/-- One byte can bring a register to 0 only when the lower eight bits are 0, and it is then the upper eight. -/
theorem crcByte_eq_zero_iff (r : Word) (b : Byte) : crcByte r b = 0#16 ↔ r = b ++ 0#8 := by
  have hzero : crcShift^[8] 0#16 = 0#16 := Function.iterate_fixed crcShift_zero 8
  calc crcByte r b = 0#16
      ↔ crcShift^[8] (r ^^^ (b ++ 0#8)) = crcShift^[8] 0#16 := by rw [crcByte_eq_iterate, hzero]
    _ ↔ r ^^^ (b ++ 0#8) = 0#16 := crcShift_iterate_injective.eq_iff
    _ ↔ r = b ++ 0#8 := BitVec.xor_eq_zero_iff

/-- The register before the last byte is that byte shifted up, so eight shifts before, it was the byte itself. -/
theorem crcByte_crcByte_eq_zero_iff (r : Word) (hi lo : Byte) :
    crcByte (crcByte r hi) lo = 0#16 ↔ hi ++ lo = r := by
  have hlo : lo ++ 0#8 = crcShift^[8] (lo.setWidth 16) := by
    rw [crcShift_iterate_byte lo le_rfl, upper_byte_eq_append]
  calc crcByte (crcByte r hi) lo = 0#16
      ↔ crcShift^[8] (r ^^^ (hi ++ 0#8)) = crcShift^[8] (lo.setWidth 16) := by
        rw [crcByte_eq_zero_iff, crcByte_eq_iterate, hlo]
    _ ↔ r ^^^ (hi ++ 0#8) = lo.setWidth 16 := crcShift_iterate_injective.eq_iff
    _ ↔ r ^^^ (hi ++ 0#8) = (hi ++ lo) ^^^ (hi ++ 0#8) := by rw [append_xor_upper_byte]
    _ ↔ hi ++ lo = r := by rw [BitVec.xor_left_inj, eq_comm]

/-! ## Lists of bytes -/

theorem crc16_concat (bytes : List Byte) (b : Byte) :
    crc16 (bytes ++ [b]) = crcByte (crc16 bytes) b :=
  List.foldl_concat ..

theorem crc16_append_pair (bytes : List Byte) (hi lo : Byte) :
    crc16 (bytes ++ [hi, lo]) = crcByte (crcByte (crc16 bytes) hi) lo := by
  rw [List.append_cons, crc16_concat, crc16_concat]

/-- R182's description of one byte, as the obligation folds it over eight steps. -/
theorem foldl_shift_eq_iterate (r : Word) :
    (List.range 8).foldl (fun r _ => if r.getLsbD 15 then (r <<< 1) ^^^ 0x1021#16 else r <<< 1) r
      = crcShift^[8] r := by
  rw [List.foldl_const]
  rfl

/-- Settles O53: a byte is eight injective shifts, and the frame carries its body's check value as two bytes. -/
theorem checkValue : Obligations.CheckValue := by
  unfold Obligations.CheckValue
  refine ⟨rfl, ?byteStep, ?nineCharacters, ?residue, ?frame⟩
  case byteStep =>
    intro bytes b
    rw [crc16_concat, crcByte_eq_iterate, foldl_shift_eq_iterate]
  case nineCharacters => decide +kernel
  case residue =>
    intro bytes hi lo
    rw [crc16_append_pair, crcByte_crcByte_eq_zero_iff]
  case frame =>
    intro f
    exact ⟨_, _, wordOf_bytes (crc16 f.body), rfl⟩

end Sys2Proof.Machine
end

section
/-! What every step keeps. `Keeps s t` says of each invariant that it carries over from `s` to `t`; one lemma for each
operation of the model shows that it keeps what a state keeps, and `step` is put together from them. -/

namespace Sys2Proof.Machine

/-- Every invariant that holds of the first state holds of the second, each by itself. -/
structure Keeps (s t : State) : Prop where
  link : s.link.bounded → t.link.bounded
  log : s.log.bounded → t.log.bounded
  config : s.configInRange → t.configInRange
  range : s.table.inRange → t.table.inRange
  distinct : s.table.distinct → t.table.distinct
  orderly : s.portsOrderly → t.portsOrderly

/-- The same of an event's state, where the event ends. -/
def KeepsOpt (s : State) (r : Option State) : Prop := ∀ t, r = some t → Keeps s t

theorem Keeps.refl (s : State) : Keeps s s := ⟨id, id, id, id, id, id⟩

variable {s₀ s t : State}

/-- A change of none of the blocks that an invariant is about. -/
theorem Keeps.congr (h : Keeps s₀ s) (hlink : t.link = s.link := by rfl) (hlog : t.log = s.log := by rfl)
    (hcfg : t.cfg = s.cfg := by rfl) (hstore : t.store = s.store := by rfl)
    (htable : t.table = s.table := by rfl) (hports : t.ports = s.ports := by rfl) : Keeps s₀ t := by
  obtain ⟨h1, h2, h3, h4, h5, h6⟩ := h
  refine ⟨?_, ?_, ?_, ?_, ?_, ?_⟩
  · rwa [hlink]
  · rwa [hlog]
  · unfold State.configInRange at *
    rwa [hcfg, hstore]
  · rwa [htable]
  · rwa [htable]
  · unfold State.portsOrderly State.port at *
    rwa [hports]

theorem ite_keeps {c : Prop} [Decidable c] {a b : State} (ha : c → Keeps s₀ a) (hb : ¬c → Keeps s₀ b) :
    Keeps s₀ (if c then a else b) := by
  split
  next hc => exact ha hc
  next hc => exact hb hc

theorem KeepsOpt.some (h : Keeps s₀ s) : KeepsOpt s₀ (some s) := by
  rintro t ⟨⟩
  exact h

theorem KeepsOpt.map {r : Option State} {f : State → State} (h : KeepsOpt s₀ r)
    (hf : ∀ u, Keeps s₀ u → Keeps s₀ (f u)) : KeepsOpt s₀ (r.map f) := by
  intro t ht
  obtain ⟨u, hu, rfl⟩ := Option.map_eq_some_iff.mp ht
  exact hf u (h u hu)

theorem KeepsOpt.bind {r : Option State} {f : State → Option State} (h : KeepsOpt s₀ r)
    (hf : ∀ u, Keeps s₀ u → KeepsOpt s₀ (f u)) : KeepsOpt s₀ (r.bind f) := by
  intro t ht
  obtain ⟨u, hu, hfu⟩ := Option.bind_eq_some_iff.mp ht
  exact hf u (h u hu) t hfu

theorem ite_keepsOpt {c : Prop} [Decidable c] {a b : Option State} (ha : c → KeepsOpt s₀ a)
    (hb : ¬c → KeepsOpt s₀ b) : KeepsOpt s₀ (if c then a else b) := by
  split
  next hc => exact ha hc
  next hc => exact hb hc

theorem eachPort_keeps {f : Port → State → State} (hf : ∀ p u, Keeps s₀ u → Keeps s₀ (f p u)) {l : List Port}
    (h : Keeps s₀ s) : Keeps s₀ (eachPort f l s) := by
  induction l generalizing s with
  | nil => exact h
  | cons p rest ih => exact ih (hf p s h)

theorem eachSlot_keeps {f : TableSlot → State → State} (hf : ∀ i u, Keeps s₀ u → Keeps s₀ (f i u))
    {l : List TableSlot} (h : Keeps s₀ s) : Keeps s₀ (eachSlot f l s) := by
  induction l generalizing s with
  | nil => exact h
  | cons i rest ih => exact ih (hf i s h)

/-! ## Blocks of the state -/

theorem onCampaign_keeps {f : Campaign → Campaign} (h : Keeps s₀ s) : Keeps s₀ (s.onCampaign f) := h.congr

theorem onSurvey_keeps {f : Survey → Survey} (h : Keeps s₀ s) : Keeps s₀ (s.onSurvey f) := h.congr

theorem onSupply_keeps {f : Supply → Supply} (h : Keeps s₀ s) : Keeps s₀ (s.onSupply f) := h.congr

theorem bumpSerial_keeps (h : Keeps s₀ s) : Keeps s₀ s.bumpSerial := h.congr

theorem onTry_keeps {f : CurrentTry → CurrentTry} (h : Keeps s₀ s) : Keeps s₀ (onTry f s) := onCampaign_keeps h

/-- A change of the link that leaves its queues in bounds. -/
theorem onLink_keeps {f : Link → Link} (h : Keeps s₀ s) (hf : s.link.bounded → (f s.link).bounded) :
    Keeps s₀ (s.onLink f) :=
  { h with link := fun k => hf (h.link k) }

/-- A change of the log that leaves it in bounds. -/
theorem onLog_keeps {f : AttemptLog → AttemptLog} (h : Keeps s₀ s) (hf : s.log.bounded → (f s.log).bounded) :
    Keeps s₀ (s.onLog f) :=
  { h with log := fun k => hf (h.log k) }

/-- A change of the configuration that leaves it in range. -/
theorem onConfig_keeps {f : WorkingConfig → WorkingConfig} (h : Keeps s₀ s)
    (hf : s.cfg.inRange → (f s.cfg).inRange) : Keeps s₀ (s.onConfig f) :=
  { h with
    config := fun k => by
      obtain ⟨hcfg, hstore⟩ := h.config k
      exact ⟨hf hcfg, hstore⟩ }

/-- A change of one port that leaves it orderly. -/
theorem onPort_keeps_of {p : Port} {f : PortContext → PortContext} (h : Keeps s₀ s)
    (hf : s₀.portsOrderly → (f (s.port p)).orderly) : Keeps s₀ (s.onPort p f) :=
  { h with
    orderly := fun k q => by
      rw [State.onPort_port]
      split
      · exact hf k
      · exact h.orderly k q }

theorem onPort_keeps {p : Port} {f : PortContext → PortContext} (h : Keeps s₀ s)
    (hf : (s.port p).orderly → (f (s.port p)).orderly) : Keeps s₀ (s.onPort p f) :=
  onPort_keeps_of h fun k => hf (h.orderly k p)

/-- Every report but START is placed by R185's test, which leaves the eighth slot free. -/
theorem raise_keeps {r : Report} (h : Keeps s₀ s) (hr : r.cls ≠ none := by simp [Report.cls]) :
    Keeps s₀ (raise r s) := by
  have hgrows := raise_grows r s hr
  have hkept : Keeps s₀ { s with link := (raise r s).link } :=
    { h with
      link := fun k => by
        obtain ⟨hin, hout⟩ := h.link k
        have hroom := hgrows.room
        refine ⟨?_, by dsimp only; omega⟩
        rw [raise_eq]
        dsimp only [Link.raised]
        repeat' split
        all_goals exact hin }
  rw [raise_eq] at hkept ⊢
  exact hkept

/-! ## The Attempt Log -/

theorem useNumber_keeps (h : Keeps s₀ s) : Keeps s₀ (useNumber s) :=
  onLog_keeps h fun k => ⟨k.1, countUp_le⟩

theorem clearLog_keeps (h : Keeps s₀ s) : Keeps s₀ (clearLog s) :=
  onLog_keeps h fun _ => by simp [AttemptLog.bounded, AttemptLog.empty]

theorem place_bounded {l : AttemptLog} (r : AttemptRecord) (h : l.bounded) : (l.place r).bounded := by
  obtain ⟨hrecords, hcounter⟩ := h
  unfold AttemptLog.place
  split
  · exact ⟨by simp; omega, hcounter⟩
  · exact ⟨by simp; omega, hcounter⟩

theorem writeRecord_keeps {r : AttemptRecord} (h : Keeps s₀ s) : Keeps s₀ (writeRecord r s) := by
  unfold writeRecord
  exact raise_keeps (onLog_keeps h fun k => place_bounded r k)

theorem writeStepRecord_keeps {d : DialStep} {o : TryOutcome} (h : Keeps s₀ s) :
    Keeps s₀ (writeStepRecord d o s) :=
  writeRecord_keeps (useNumber_keeps h)

theorem writeSummary_keeps {o : CampaignOutcome} (h : Keeps s₀ s) : Keeps s₀ (writeSummary o s) := by
  unfold writeSummary
  exact raise_keeps (onLog_keeps h fun k => k)

/-! ## The Network Table -/

/-- The second table holds entries of the first alone, each under its own identity and in range where it was. -/
def NetTable.Narrows (t u : NetTable) : Prop :=
  ∀ i e, u.entry i = some e →
    ∃ d, t.entry i = some d ∧ e.port = d.port ∧ e.net = d.net ∧ (d.inRange → e.inRange)

theorem NetTable.Narrows.inRange {t u : NetTable} (h : t.Narrows u) (k : t.inRange) : u.inRange := by
  intro i e he
  obtain ⟨d, hd, -, -, hr⟩ := h i e he
  exact hr (k i d hd)

theorem NetTable.Narrows.distinct {t u : NetTable} (h : t.Narrows u) (k : t.distinct) : u.distinct := by
  intro i j a b ha hb hport hnet
  obtain ⟨c, hc, hcp, hcn, -⟩ := h i a ha
  obtain ⟨d, hd, hdp, hdn, -⟩ := h j b hb
  exact k i j c d hc hd (by rw [← hcp, ← hdp, hport]) (by rw [← hcn, ← hdn, hnet])

theorem NetTable.Narrows.find_none {t u : NetTable} (h : t.Narrows u) {p : Port} {net : NetworkId}
    (k : t.find p net = none) : u.find p net = none := by
  rw [NetTable.find_none] at k ⊢
  rintro i e he ⟨hp, hn⟩
  obtain ⟨d, hd, hdp, hdn, -⟩ := h i e he
  exact k i d hd ⟨by rw [← hdp, hp], by rw [← hdn, hn]⟩

theorem NetTable.Narrows.refl (t : NetTable) : t.Narrows t := fun _ e he => ⟨e, he, rfl, rfl, id⟩

theorem NetTable.Narrows.trans {t u v : NetTable} (h : t.Narrows u) (k : u.Narrows v) : t.Narrows v := by
  intro i e he
  obtain ⟨d, hd, hdp, hdn, hdr⟩ := k i e he
  obtain ⟨c, hc, hcp, hcn, hcr⟩ := h i d hd
  exact ⟨c, hc, hdp.trans hcp, hdn.trans hcn, fun hr => hdr (hcr hr)⟩

theorem onTable_keeps {f : NetTable → NetTable} (h : Keeps s₀ s) (hf : s.table.Narrows (f s.table)) :
    Keeps s₀ (s.onTable f) :=
  { h with
    range := fun k => hf.inRange (h.range k)
    distinct := fun k => hf.distinct (h.distinct k) }

/-- A change of an entry that leaves its identity and its ranges. -/
def Tame (f : Entry → Entry) : Prop :=
  ∀ e, (f e).port = e.port ∧ (f e).net = e.net ∧ (e.inRange → (f e).inRange)

theorem onAll_narrows {f : Entry → Entry} (hf : Tame f) (t : NetTable) : t.Narrows (t.onAll f) := by
  intro i e he
  rw [NetTable.entry_onAll] at he
  obtain ⟨d, hd, rfl⟩ := Option.map_eq_some_iff.mp he
  exact ⟨d, hd, hf d⟩

theorem putEntry_narrows {t : NetTable} {slot : TableSlot} {o : Option Entry}
    (ho : ∀ e, o = some e →
      ∃ d, t.entry slot = some d ∧ e.port = d.port ∧ e.net = d.net ∧ (d.inRange → e.inRange)) :
    t.Narrows (t.putEntry slot o) := by
  intro i e he
  rw [NetTable.entry_putEntry] at he
  split at he
  next hi => exact hi ▸ ho e he
  next => exact ⟨e, he, rfl, rfl, id⟩

theorem onEntry_narrows {f : Entry → Entry} (hf : Tame f) (t : NetTable) (slot : TableSlot) :
    t.Narrows (t.onEntry slot f) := by
  refine putEntry_narrows fun e he => ?_
  obtain ⟨d, hd, rfl⟩ := Option.map_eq_some_iff.mp he
  exact ⟨d, hd, hf d⟩

theorem putHold_tame (kind : HoldKind) (on : Bool) : Tame fun e => { e with holds := e.holds.put kind on } :=
  fun _ => ⟨rfl, rfl, id⟩

/-- A score computation leaves identity and ranges: the score it gives is 780 at most. -/
theorem rescore_tame (prefs : List PreferenceRecord) {f : Entry → Entry} (hf : Tame f) :
    Tame fun e => rescore prefs (f e) := by
  intro e
  obtain ⟨hp, hn, hr⟩ := hf e
  refine ⟨by simp [hp], by simp [hn], fun k => ?_⟩
  obtain ⟨h1, h2, h3, h4, h5, h6, h7, -⟩ := hr k
  exact ⟨h1, h2, h3, h4, h5, h6, h7, scoreOf_le _⟩

theorem id_tame : Tame fun e => e := fun _ => ⟨rfl, rfl, id⟩

theorem older_tame (prefs : List PreferenceRecord) : Tame (Entry.older prefs) :=
  rescore_tame prefs (f := fun e => { e with age := countUp 65535 e.age }) fun _ =>
    ⟨rfl, rfl, fun ⟨h1, h2, h3, h4, h5, _, h7, h8⟩ => ⟨h1, h2, h3, h4, h5, countUp_le, h7, h8⟩⟩

theorem failed_tame (prefs : List PreferenceRecord) (cause : Option Byte) :
    Tame fun e => rescore prefs { e with failures := countUp 7 e.failures, lastCause := cause } :=
  rescore_tame prefs (f := fun e => { e with failures := countUp 7 e.failures, lastCause := cause }) fun _ =>
    ⟨rfl, rfl, fun ⟨h1, h2, h3, h4, h5, h6, _, h8⟩ => ⟨h1, h2, h3, h4, h5, h6, countUp_le, h8⟩⟩

theorem connected_tame (prefs : List PreferenceRecord) : Tame fun e => rescore prefs { e with failures := 0 } :=
  rescore_tame prefs (f := fun e => { e with failures := 0 }) fun _ =>
    ⟨rfl, rfl, fun ⟨h1, h2, h3, h4, h5, h6, _, h8⟩ => ⟨h1, h2, h3, h4, h5, h6, Nat.zero_le 7, h8⟩⟩

theorem decayed_tame (prefs : List PreferenceRecord) :
    Tame fun e => rescore prefs { e with failures := e.failures - 1 } :=
  rescore_tame prefs (f := fun e => { e with failures := e.failures - 1 }) fun e =>
    ⟨rfl, rfl, fun ⟨h1, h2, h3, h4, h5, h6, h7, h8⟩ =>
      ⟨h1, h2, h3, h4, h5, h6, (Nat.sub_le e.failures 1).trans h7, h8⟩⟩

theorem noHolds_tame : Tame fun e => { e with holds := Holds.empty } := fun _ => ⟨rfl, rfl, id⟩

theorem rescoreAll_keeps (h : Keeps s₀ s) : Keeps s₀ (rescoreAll s) :=
  onTable_keeps h (onAll_narrows (rescore_tame _ id_tame) _)

theorem grantHold_keeps {k : HoldKind} {i : TableSlot} (h : Keeps s₀ s) : Keeps s₀ (grantHold k i s) :=
  onTable_keeps h (onEntry_narrows (putHold_tame k true) _ _)

theorem withdrawHold_keeps {k : HoldKind} {i : TableSlot} (h : Keeps s₀ s) : Keeps s₀ (withdrawHold k i s) :=
  onTable_keeps h (onEntry_narrows (putHold_tame k false) _ _)

theorem withdrawEverywhere_keeps {k : HoldKind} (h : Keeps s₀ s) : Keeps s₀ (withdrawEverywhere k s) :=
  onTable_keeps h (onAll_narrows (putHold_tame k false) _)

theorem withdrawAllHolds_keeps (h : Keeps s₀ s) : Keeps s₀ (withdrawAllHolds s) :=
  onTable_keeps h (onAll_narrows noHolds_tame _)

theorem freeSlot_keeps {i : TableSlot} {c : FreeCause} (h : Keeps s₀ s) : Keeps s₀ (freeSlot i c s) :=
  raise_keeps (onTable_keeps h (putEntry_narrows (by simp)))

theorem tellOutcome_keeps {i : TableSlot} {o : TryOutcome} {c : Option Byte} (h : Keeps s₀ s) :
    Keeps s₀ (tellOutcome i o c s) := by
  unfold tellOutcome
  exact ite_keeps (fun _ => onTable_keeps h (onEntry_narrows (failed_tame _ c) _ _)) fun _ => h

theorem tellConnected_keeps {i : TableSlot} (h : Keeps s₀ s) : Keeps s₀ (tellConnected i s) :=
  onTable_keeps h (onEntry_narrows (connected_tame _) _ _)

theorem decayFailures_keeps (h : Keeps s₀ s) : Keeps s₀ (decayFailures s) :=
  onTable_keeps h (onAll_narrows (decayed_tame _) _)

theorem ageTable_keeps (h : Keeps s₀ s) : Keeps s₀ (ageTable s) :=
  onTable_keeps h (onAll_narrows (older_tame _) s.table)

theorem clearUnheld_keeps (h : Keeps s₀ s) : Keeps s₀ (clearUnheld s) := by
  refine onTable_keeps h fun i e he => ?_
  have hfilter : (s.table.entry i).filter (fun x => x.holds.any) = some e := by
    rw [← he]
    exact (Vector.getElem_map (fun o : Option Entry => o.filter fun x => x.holds.any) i.isLt).symm
  exact ⟨e, (Option.filter_eq_some_iff.mp hfilter).1, rfl, rfl, id⟩

/-! ### Samples (01 R7 to R9) -/

/-- The sample is one that R7 clamps to. -/
def Sample.inRange (m : Sample) : Prop :=
  -140 ≤ m.level ∧ m.level ≤ -44 ∧ ∀ q, m.quality = some q → -20 ≤ q ∧ q ≤ 30

theorem sampleOf_inRange (net : NetworkId) (level quality : Byte) : (sampleOf net level quality).inRange := by
  refine ⟨le_clampInt (by omega), clampInt_le (by omega), fun q hq => ?_⟩
  simp only [sampleOf] at hq
  split at hq
  · cases hq
  · cases hq
    exact ⟨le_clampInt (by omega), clampInt_le (by omega)⟩

/-- An average stays between the two values it is made of, the truncation being toward zero. -/
theorem averaged_between {n : Nat} {a m lo hi : Int} (ha : 4 * lo ≤ a ∧ a ≤ 4 * hi) (hm : lo ≤ m ∧ m ≤ hi) :
    4 * lo ≤ averaged n a m ∧ averaged n a m ≤ 4 * hi := by
  unfold averaged
  split
  · omega
  · rcases le_total 0 (4 * m - a) with hd | hd
    · rw [quarter_of_nonneg hd]
      omega
    · rw [quarter_of_nonpos hd]
      omega

theorem sampled_tame (prefs : List PreferenceRecord) {m : Sample} (hm : m.inRange) : Tame (Entry.sampled prefs m) := by
  obtain ⟨hlo, hhi, hq⟩ := hm
  refine rescore_tame prefs (f := fun e => { e with
    level := averaged e.samples e.level m.level
    quality := averagedQuality e.samples e.quality m.quality
    samples := countUp 255 e.samples
    age := 0
    state := .seen }) fun e => ⟨rfl, rfl, fun ⟨h1, h2, h3, h4, _, _, h7, h8⟩ => ?_⟩
  have hlevel : -560 ≤ averaged e.samples e.level m.level ∧ averaged e.samples e.level m.level ≤ -176 :=
    averaged_between (lo := -140) (hi := -44) (by omega) ⟨hlo, hhi⟩
  have hquality : -80 ≤ averagedQuality e.samples e.quality m.quality
      ∧ averagedQuality e.samples e.quality m.quality ≤ 120 := by
    unfold averagedQuality
    split
    next q heq => exact averaged_between (lo := -20) (hi := 30) (by omega) (hq q heq)
    next => split <;> omega
  exact ⟨hlevel.1, hlevel.2, hquality.1, hquality.2, countUp_le, by simp, h7, h8⟩

/-- A first sample needs no average before it. -/
theorem newEntry_inRange (prefs : List PreferenceRecord) (p : Port) {m : Sample} (hm : m.inRange) :
    (newEntry prefs p m).inRange := by
  obtain ⟨hlo, hhi, hq⟩ := hm
  have hquality : -80 ≤ averagedQuality 0 0 m.quality ∧ averagedQuality 0 0 m.quality ≤ 120 := by
    unfold averagedQuality
    split
    next q heq =>
      have := hq q heq
      simp only [averaged, if_true]
      omega
    next => simp
  have hlevel : -560 ≤ averaged 0 0 m.level ∧ averaged 0 0 m.level ≤ -176 := by
    simp only [averaged, if_true]
    omega
  exact ⟨hlevel.1, hlevel.2, hquality.1, hquality.2, countUp_le (limit := 255) (n := 0), Nat.zero_le _, Nat.zero_le _, scoreOf_le _⟩

theorem createEntry_keeps {i : TableSlot} {p : Port} {m : Sample} (hm : m.inRange)
    (hfind : s.table.find p m.net = none) (h : Keeps s₀ s) : Keeps s₀ (createEntry i p m s) := by
  rw [NetTable.find_none] at hfind
  refine raise_keeps (s := s.onTable _) { h with range := fun k => ?_, distinct := fun k => ?_ }
  · intro j e he
    rw [State.onTable_table, NetTable.entry_putEntry] at he
    split at he
    · cases he
      exact newEntry_inRange _ p hm
    · exact h.range k j e he
  · have hport : (newEntry s.cfg.preferences p m).port = p := by simp [newEntry, Entry.sampled]
    have hnet : (newEntry s.cfg.preferences p m).net = m.net := by simp [newEntry, Entry.sampled]
    intro j l a b ha hb hab hnets
    rw [State.onTable_table, NetTable.entry_putEntry] at ha hb
    split at ha
    next hj =>
      split at hb
      next hl => rw [hj, hl]
      next =>
        cases ha
        exact absurd ⟨hab.symm.trans hport, hnets.symm.trans hnet⟩ (hfind l b hb)
    next =>
      split at hb
      next =>
        cases hb
        exact absurd ⟨hab.trans hport, hnets.trans hnet⟩ (hfind j a ha)
      next => exact h.distinct k j l a b ha hb hab hnets

theorem freeSlot_find_none {i : TableSlot} {c : FreeCause} {p : Port} {net : NetworkId}
    (h : s.table.find p net = none) : (freeSlot i c s).table.find p net = none := by
  have htable : (freeSlot i c s).table = s.table.putEntry i none := by simp [freeSlot]
  rw [htable]
  exact (putEntry_narrows (by simp)).find_none h

theorem recordNew_keeps {p : Port} {m : Sample} (hm : m.inRange) (hfind : s.table.find p m.net = none)
    (h : Keeps s₀ s) : Keeps s₀ (recordNew p m s) := by
  unfold recordNew
  split
  · exact createEntry_keeps hm hfind h
  · split
    · exact createEntry_keeps hm (freeSlot_find_none hfind) (freeSlot_keeps h)
    · split
      · exact createEntry_keeps hm (freeSlot_find_none hfind) (freeSlot_keeps h)
      · exact raise_keeps h

theorem sampleSlot_keeps {i : TableSlot} {m : Sample} (hm : m.inRange) (h : Keeps s₀ s) :
    Keeps s₀ (sampleSlot i m s) := by
  unfold sampleSlot
  split
  · exact h
  next e he =>
    have hput : Keeps s₀ (s.onTable fun t => t.putEntry i (some (e.sampled s.cfg.preferences m))) :=
      onTable_keeps h (putEntry_narrows fun x hx => ⟨e, he, Option.some.inj hx ▸ sampled_tame _ hm e⟩)
    exact ite_keeps (fun _ => raise_keeps hput) fun _ => hput

theorem loseEntry_keeps {i : TableSlot} (h : Keeps s₀ s) : Keeps s₀ (loseEntry i s) := by
  unfold loseEntry
  split
  · exact h
  next e he =>
    exact ite_keeps
      (fun _ => raise_keeps (onTable_keeps h (putEntry_narrows fun x hx =>
        ⟨e, he, Option.some.inj hx ▸ ⟨rfl, rfl, id⟩⟩)))
      (fun _ => h)

theorem losePort_keeps {p : Port} (h : Keeps s₀ s) : Keeps s₀ (losePort p s) :=
  eachSlot_keeps (fun _ _ => loseEntry_keeps) h

end Sys2Proof.Machine
end

section
/-! What every step keeps, continued: the orders of the ports (06 R116 to R121) and the standby (04 R85, R86). -/

namespace Sys2Proof.Machine

variable {s₀ s t : State}

/-! ## The campaign context of other blocks' events -/

theorem reportState_keeps (h : Keeps s₀ s) : Keeps s₀ (reportState s) := by
  unfold reportState
  exact raise_keeps h

theorem reportChange_keeps {k : StateKey} (h : Keeps s₀ s) : Keeps s₀ (reportChange k s) := by
  unfold reportChange
  exact ite_keeps (fun _ => h) fun _ => reportState_keeps h

theorem clearStandby_keeps {r : StandbyReason} (h : Keeps s₀ s) : Keeps s₀ (clearStandby r s) := by
  unfold clearStandby
  split
  · exact h
  · exact raise_keeps (withdrawHold_keeps (onCampaign_keeps h))

theorem loseAndTell_keeps {i : TableSlot} (h : Keeps s₀ s) : Keeps s₀ (loseAndTell i s) := by
  unfold loseAndTell
  exact ite_keeps (fun _ => clearStandby_keeps (loseEntry_keeps h)) fun _ => loseEntry_keeps h

theorem dropCallbackPort_keeps {p : Port} (h : Keeps s₀ s) : Keeps s₀ (dropCallbackPort p s) := by
  unfold dropCallbackPort
  exact ite_keeps (fun _ => withdrawEverywhere_keeps (onCampaign_keeps h)) fun _ => h

theorem setCall_keeps {p : Port} {n : CallState} (h : Keeps s₀ s) : Keeps s₀ (setCall p n s) := by
  unfold setCall
  extract_lets old s1 s2
  have h1 : Keeps s₀ s1 := onPort_keeps h fun k => k
  have h2 : Keeps s₀ s2 := ite_keeps (fun _ => clearStandby_keeps h1) fun _ => h1
  exact ite_keeps (fun _ => onCampaign_keeps h2) fun _ => h2

theorem setAttachment_keeps {p : Port} {a : Attachment} (h : Keeps s₀ s) : Keeps s₀ (setAttachment p a s) := by
  unfold setAttachment
  have h1 : Keeps s₀ (s.onPort p fun c => { c with attachment := a }) := onPort_keeps h fun k => k
  exact ite_keeps (fun _ => dropCallbackPort_keeps h1) fun _ => h1

/-! ## Orders (06 R116 to R121) -/

theorem setAttachment_ports (p : Port) (a : Attachment) (s : State) :
    (setAttachment p a s).ports = s.ports.put p { s.port p with attachment := a } := by
  unfold setAttachment
  dsimp only
  split <;> simp [State.port]

theorem setAttachment_port_self (p : Port) (a : Attachment) (s : State) :
    (setAttachment p a s).port p = { s.port p with attachment := a } := by
  rw [State.port, setAttachment_ports, PerPort.get_put_self]

/-- A port in one of the powers that no order waits in. -/
def Power.idles (w : Power) : Prop := w = .off ∨ w = .disabled ∨ w = .fault ∨ w = .dead

theorem idles_iff {w : Power} : w.idles ↔ ¬(w = .waking ∨ w = .on ∨ w = .sleeping) := by
  cases w <;> simp [Power.idles]

theorem orderly_of_busy {c : PortContext} (hw : ¬c.power.idles) (hq : c.queue.length ≤ 4) : c.orderly :=
  ⟨hq, fun k => absurd k hw⟩

theorem unregister_keeps {p : Port} (h : Keeps s₀ s) :
    Keeps s₀ (if (s.port p).queue.any Order.registers then s else setAttachment p .none s) :=
  ite_keeps (fun _ => h) fun _ => setAttachment_keeps h

theorem sendWake_keeps {p : Port} {r : WakeReason} (h : Keeps s₀ s) : Keeps s₀ (sendWake p r s) := by
  unfold sendWake sendOrder
  dsimp only
  rw [State.onPort_onPort]
  exact unregister_keeps (onPort_keeps h fun k => orderly_of_busy (by simp [Power.idles]) k.1)

theorem sendSleep_keeps {p : Port} {w : Submitter} (h : Keeps s₀ s) : Keeps s₀ (sendOrder p ⟨.sleep, w⟩ s) := by
  unfold sendOrder
  dsimp only
  rw [State.onPort_onPort]
  exact unregister_keeps (onPort_keeps h fun k => orderly_of_busy (by simp [Power.idles]) k.1)

/-- An ON port sends an order of any kind. -/
theorem sendOrder_keeps {p : Port} {o : Order} (hp : (s.port p).power = .on) (h : Keeps s₀ s) :
    Keeps s₀ (sendOrder p o s) := by
  have hsent : Keeps s₀ (s.onPort p fun c => { c with inFlight := some ⟨o, orderTimeout o.kind⟩ }) :=
    onPort_keeps h fun k => orderly_of_busy (by simp [hp, Power.idles]) k.1
  unfold sendOrder
  dsimp only
  split
  case h_1 | h_2 =>
    exact unregister_keeps (onPort_keeps hsent fun k => orderly_of_busy (by simp [Power.idles]) k.1)
  case h_3 | h_4 | h_5 | h_6 => exact setCall_keeps hsent
  all_goals exact hsent

theorem sendNext_keeps {p : Port} (h : Keeps s₀ s) : Keeps s₀ (sendNext p s) := by
  unfold sendNext
  refine ite_keeps (fun hp => ?_) fun _ => h
  split
  · exact h
  next o rest hq =>
    have hlen : (s.port p).queue.length = rest.length + 1 := by rw [hq]; rfl
    refine sendOrder_keeps (by simp [hp.1]) (onPort_keeps h fun k => ?_)
    exact orderly_of_busy (by simp [hp.1, Power.idles]) (by have := k.1; dsimp only; omega)

theorem surveyScanEnds_keeps {p : Port} {n : Nat} {r : MatchRecord} (h : Keeps s₀ s) :
    Keeps s₀ (surveyScanEnds p n r s) := by
  unfold surveyScanEnds
  exact ite_keeps (fun _ => onSurvey_keeps h) fun _ => h

theorem tellDropped_keeps {p : Port} {l : List Order} (h : Keeps s₀ s) : Keeps s₀ (tellDropped p l s) := by
  induction l generalizing s with
  | nil => exact h
  | cons o rest ih =>
    unfold tellDropped
    split
    · exact ih (surveyScanEnds_keeps h)
    all_goals exact ih h

theorem registering_keeps {p : Port} {o : Order} (h : Keeps s₀ s) : Keeps s₀ (registering p o s) := by
  unfold registering
  split
  case h_1 | h_2 => exact setAttachment_keeps h
  all_goals exact h

theorem length_joinQueue (o : Order) (q : List Order) : (joinQueue o q).length = q.length + 1 := by
  unfold joinQueue
  split
  · have := congrArg List.length (List.takeWhile_append_dropWhile (p := Order.atHead) (l := q))
    simp only [List.length_append, List.length_cons] at this ⊢
    omega
  · simp

/-- An order joins a queue with room at a port that is WAKING, ON or SLEEPING. -/
theorem placeOrder_keeps {p : Port} {o : Order} (hw : ¬(s.port p).power.idles)
    (hq : s₀.portsOrderly → (s.port p).queue.length < 4) (h : Keeps s₀ s) : Keeps s₀ (placeOrder p o s) := by
  unfold placeOrder
  have hjoined : Keeps s₀ (registering p o (s.onPort p fun c => { c with queue := joinQueue o c.queue })) :=
    registering_keeps (onPort_keeps_of h fun k => orderly_of_busy hw (by
      have := hq k
      simp only [length_joinQueue]
      omega))
  exact ite_keeps (fun _ => sendNext_keeps hjoined) fun _ => hjoined

theorem length_removeNewest {test : Order → Bool} {q : List Order} {x : Order} {rest : List Order}
    (h : removeNewest test q = some (x, rest)) : q.length = rest.length + 1 := by
  induction q generalizing x rest with
  | nil => cases h
  | cons o q ih =>
    unfold removeNewest at h
    split at h
    next y kept hy =>
      cases h
      simp [ih hy]
    next =>
      split at h
      · cases h
        rfl
      · cases h

theorem removeNewest_any {q : List Order} (h : q ≠ []) : removeNewest (fun _ => true) q ≠ none := by
  cases q with
  | nil => exact absurd rfl h
  | cons o q =>
    unfold removeNewest
    split <;> simp

theorem chooseRemoval_cons {c : Campaign} {call : CallState} {q : List Order} (h : q ≠ []) :
    ∃ x rest, chooseRemoval c call q = some (x, rest) ∧ q.length = rest.length + 1 := by
  unfold chooseRemoval
  split
  next r hr => exact ⟨r.1, r.2, rfl, length_removeNewest hr⟩
  next =>
    split
    next r hr => exact ⟨r.1, r.2, rfl, length_removeNewest hr⟩
    next =>
      obtain ⟨r, hr⟩ := Option.ne_none_iff_exists'.mp (removeNewest_any h)
      exact ⟨r.1, r.2, hr, length_removeNewest hr⟩

/-- Making room takes one order out of a queue that holds any, and leaves the power. -/
theorem makeRoom_port (p : Port) (s : State) (hq : (s.port p).queue ≠ []) :
    ((makeRoom p s).port p).power = (s.port p).power
      ∧ ((makeRoom p s).port p).queue.length + 1 = (s.port p).queue.length := by
  obtain ⟨x, rest, hx, hlen⟩ := chooseRemoval_cons (c := s.campaign) (call := (s.port p).call) hq
  have hports (l : List Order) (u : State) : (tellDropped p l u).port p = u.port p := by
    simp [State.port]
  unfold makeRoom
  rw [hx]
  dsimp only
  split
  · rw [setAttachment_port_self, hports, State.onPort_port_self]
    exact ⟨rfl, hlen.symm⟩
  · rw [hports, State.onPort_port_self]
    exact ⟨rfl, hlen.symm⟩

theorem makeRoom_keeps {p : Port} (hw : ¬(s.port p).power.idles) (h : Keeps s₀ s) : Keeps s₀ (makeRoom p s) := by
  by_cases hq : (s.port p).queue = []
  · have : makeRoom p s = s := by simp [makeRoom, hq, chooseRemoval, removeNewest]
    rwa [this]
  · obtain ⟨x, rest, hx, hlen⟩ := chooseRemoval_cons (c := s.campaign) (call := (s.port p).call) hq
    have h1 : Keeps s₀ (tellDropped p [x] (s.onPort p fun c => { c with queue := rest })) :=
      tellDropped_keeps (onPort_keeps h fun k => orderly_of_busy hw (by have := k.1; dsimp only; omega))
    unfold makeRoom
    rw [hx]
    exact ite_keeps (fun _ => setAttachment_keeps h1) fun _ => h1

theorem power_usable_iff {w : Power} : w.usable = true ↔ w = .off ∨ ¬w.idles := by
  cases w <;> simp [Power.usable, Power.idles]

theorem usable_of_accepted {p : Port} {o : Order} (h : answerFor p o s = .accepted) :
    (s.port p).power.usable = true := by
  unfold answerFor at h
  split at h
  · cases h
  next hu => simpa using (Bool.or_eq_false_iff.mp (Bool.eq_false_of_not_eq_true hu)).2

/-- What a WAKE makes of its port. -/
theorem sendWake_port (p : Port) (r : WakeReason) (s : State) :
    ((sendWake p r s).port p).power = .waking ∧ ((sendWake p r s).port p).queue = (s.port p).queue := by
  unfold sendWake sendOrder
  dsimp only
  split
  · simp
  · rw [setAttachment_port_self]
    simp

theorem acceptOrder_keeps {p : Port} {o : Order} (ha : answerFor p o s = .accepted) (h : Keeps s₀ s) :
    Keeps s₀ (acceptOrder p o s) := by
  have husable := usable_of_accepted ha
  unfold acceptOrder
  refine ite_keeps (fun hoff => ?_) fun hoff => ?_
  · obtain ⟨hpower, hqueue⟩ := sendWake_port p .demand s
    refine placeOrder_keeps (by simp [hpower, Power.idles]) (fun k => ?_) (sendWake_keeps h)
    have hempty := ((h.orderly k p).2 (.inl hoff)).2
    simp [hqueue, hempty]
  · have hw : ¬(s.port p).power.idles := (power_usable_iff.mp husable).resolve_left hoff
    refine ite_keeps (fun hq => placeOrder_keeps hw (fun _ => hq) h) fun hq => ?_
    have hne : (s.port p).queue ≠ [] := by
      rintro hnil
      simp [hnil] at hq
    obtain ⟨hpower, hlen⟩ := makeRoom_port p s hne
    refine placeOrder_keeps (by rwa [hpower]) (fun k => ?_) (makeRoom_keeps hw h)
    have := (h.orderly k p).1
    omega

theorem submit_keeps {p : Port} {o : Order} (h : Keeps s₀ s) : Keeps s₀ (submit p o s) := by
  unfold submit
  exact ite_keeps (fun ha => acceptOrder_keeps ha h) fun _ => h

theorem submitAll_keeps {p : Port} {l : List Order} (h : Keeps s₀ s) : Keeps s₀ (submitAll p l s).2 := by
  induction l generalizing s with
  | nil => exact h
  | cons o rest ih =>
    unfold submitAll
    split
    next ha => exact ih (acceptOrder_keeps ha h)
    next => exact h

theorem length_retagQueue {i : TableSlot} {net : NetworkId} {u : Purpose} {q r : List Order}
    (h : retagQueue i net u q = some r) : r.length = q.length := by
  induction q generalizing r with
  | nil => cases h
  | cons o q ih =>
    unfold retagQueue at h
    split at h
    next x hx =>
      cases h
      simp [ih hx]
    next =>
      split at h
      · cases h
        rfl
      · cases h

theorem adoptAttach_keeps {p : Port} {i : TableSlot} {net : NetworkId} {u : Purpose} (h : Keeps s₀ s) :
    Keeps s₀ (adoptAttach p i net u s) := by
  unfold adoptAttach
  refine onPort_keeps h fun ⟨hlen, hidle⟩ => ?_
  split
  next q hq =>
    have hsame := length_retagQueue hq
    refine ⟨by dsimp only; omega, fun k => ⟨(hidle k).1, ?_⟩⟩
    have hnil := (hidle k).2
    rw [hnil] at hsame
    exact List.eq_nil_of_length_eq_zero hsame
  next => exact ⟨hlen, fun k => ⟨by simp [(hidle k).1], (hidle k).2⟩⟩

theorem dropOrders_keeps_of {p : Port} (h : Keeps s₀ s) : Keeps s₀ (dropOrders p s) :=
  tellDropped_keeps (onPort_keeps_of h fun _ => ⟨Nat.zero_le _, fun _ => ⟨rfl, rfl⟩⟩)

theorem portDown_keeps {p : Port} (h : Keeps s₀ s) : Keeps s₀ (portDown p s) :=
  setAttachment_keeps (setCall_keeps (dropOrders_keeps_of h))

/-- A port goes down with its orders, whatever its power becomes. -/
theorem portDown_onPort_keeps {p : Port} {f : PortContext → PortContext} (h : Keeps s₀ s) :
    Keeps s₀ (portDown p (s.onPort p f)) := by
  refine setAttachment_keeps (setCall_keeps (tellDropped_keeps ?_))
  rw [State.onPort_onPort]
  exact onPort_keeps_of h fun _ => ⟨Nat.zero_le _, fun _ => ⟨rfl, rfl⟩⟩

theorem haltPort_keeps {p : Port} (h : Keeps s₀ s) : Keeps s₀ (haltPort p s) := by
  unfold haltPort
  split
  case h_1 | h_2 => exact sendSleep_keeps (setCall_keeps (dropOrders_keeps_of h))
  case h_3 =>
    exact setAttachment_keeps (tellDropped_keeps (onPort_keeps h fun k => ⟨Nat.zero_le _, fun w => ⟨(k.2 w).1, rfl⟩⟩))
  all_goals exact h

theorem raisePort_keeps {k : PortReportKind} {p : Port} (h : Keeps s₀ s) : Keeps s₀ (raisePort k p s) := by
  unfold raisePort
  exact raise_keeps h

/-! ## The standby (04 R85, R86) -/

theorem raiseStandby_keeps {b : Standby} (h : Keeps s₀ s) : Keeps s₀ (raiseStandby b s) := by
  unfold raiseStandby
  exact raise_keeps h

theorem createStandby_keeps {i : TableSlot} {p : Port} {u : StandbyStatus} (h : Keeps s₀ s) :
    Keeps s₀ (createStandby i p u s) :=
  raiseStandby_keeps (onCampaign_keeps (bumpSerial_keeps h))

theorem prepareStandby_keeps {i : TableSlot} {e : Entry} (h : Keeps s₀ s) : Keeps s₀ (prepareStandby i e s) := by
  unfold prepareStandby
  split
  · exact createStandby_keeps h
  · exact adoptAttach_keeps (createStandby_keeps h)
  · have hsubmitted {l : List Order} := submitAll_keeps (p := e.port) (l := l)
      (createStandby_keeps (i := i) (p := e.port) (u := .preparing) h)
    exact ite_keeps (fun _ => hsubmitted) fun _ => clearStandby_keeps hsubmitted

theorem seekStandby_keeps (h : Keeps s₀ s) : Keeps s₀ (seekStandby s) := by
  unfold seekStandby
  refine ite_keeps (fun _ => ?_) fun _ => h
  split
  · exact h
  · split
    · exact h
    · exact ite_keeps (fun _ => prepareStandby_keeps (grantHold_keeps h)) fun _ => h

theorem standbyAttached_keeps {ok : Bool} (h : Keeps s₀ s) : Keeps s₀ (standbyAttached ok s) := by
  unfold standbyAttached
  split
  · exact h
  · exact ite_keeps (fun _ => raiseStandby_keeps (onCampaign_keeps h)) fun _ => clearStandby_keeps h

end Sys2Proof.Machine
end

section
/-! What every step keeps, continued: the campaign's chain and what the campaign does with the records of other blocks
(02 to 04), and scans at the table (01 R10, R11). -/

namespace Sys2Proof.Machine

variable {s₀ s t : State}

/-! ## The links of the campaign's chain (02 to 04) -/

theorem handed_keeps {g : Go} (h : Keeps s₀ s) : Keeps s₀ (g, s).2 := h

theorem abandonWalk_keeps (h : Keeps s₀ s) : Keeps s₀ (abandonWalk s) := onCampaign_keeps h

theorem leaveTalk_keeps (h : Keeps s₀ s) : Keeps s₀ (leaveTalk s) := by
  unfold leaveTalk
  split
  · exact onCampaign_keeps (withdrawHold_keeps h)
  · exact onCampaign_keeps h

theorem controlStep_keeps {i : PlanSlot} {x : PlanStep} (h : Keeps s₀ s) : Keeps s₀ (controlStep i x s).2 := by
  unfold controlStep
  split
  · split <;> exact h
  · exact h
  · split <;> exact handed_keeps (onCampaign_keeps h)
  · split
    · exact handed_keeps (onCampaign_keeps h)
    · exact h
  all_goals exact h

theorem walkSlot_keeps {i : PlanSlot} (h : Keeps s₀ s) : Keeps s₀ (walkSlot i s).2 := by
  unfold walkSlot
  dsimp only
  split
  case h_1 | h_2 | h_3 => exact handed_keeps (onCampaign_keeps (onCampaign_keeps h))
  all_goals
    split
    · exact controlStep_keeps (onCampaign_keeps (onCampaign_keeps h))
    · exact handed_keeps (onCampaign_keeps (onCampaign_keeps (onCampaign_keeps h)))

theorem failStep_keeps (h : Keeps s₀ s) : Keeps s₀ (failStep s).2 := by
  unfold failStep
  split
  · exact h
  · exact handed_keeps (onCampaign_keeps h)

theorem takeEntry_keeps {i : TableSlot} {e : Entry} (h : Keeps s₀ s) : Keeps s₀ (takeEntry i e s) :=
  onTry_keeps (useNumber_keeps (grantHold_keeps h))

theorem dialTry_keeps {x : CurrentTry} {p : Port} (h : Keeps s₀ s) : Keeps s₀ (dialTry x p s).2 := by
  unfold dialTry
  dsimp only
  split
  next ha => exact acceptOrder_keeps ha (onCampaign_keeps (onTry_keeps h))
  next => exact h

theorem preparing_keeps (h : Keeps s₀ s) : Keeps s₀ (preparing s) := onCampaign_keeps (onTry_keeps h)

theorem bringTry_keeps (h : Keeps s₀ s) : Keeps s₀ (bringTry s).2 := by
  unfold bringTry
  split
  · split
    · split
      · exact dialTry_keeps h
      · exact adoptAttach_keeps (preparing_keeps h)
      · exact submitAll_keeps (preparing_keeps h)
    · exact h
  · exact h

theorem createTry_keeps {o : TryOrigin} {i : Option PlanSlot} {n : DestNumber} (h : Keeps s₀ s) :
    Keeps s₀ (createTry o i n s) := by
  unfold createTry
  exact onCampaign_keeps (bumpSerial_keeps h)

theorem beginStepTry_keeps (h : Keeps s₀ s) : Keeps s₀ (beginStepTry s).2 := by
  unfold beginStepTry
  split
  · exact h
  · split
    · exact createTry_keeps h
    · exact writeStepRecord_keeps h

theorem selectEntry_keeps (h : Keeps s₀ s) : Keeps s₀ (selectEntry s).2 := by
  unfold selectEntry
  split
  · exact h
  · split
    · split
      · exact bringTry_keeps (takeEntry_keeps h)
      · exact h
    · split
      · exact handed_keeps (onCampaign_keeps (writeStepRecord_keeps h))
      · exact handed_keeps (onCampaign_keeps h)

theorem endTry_keeps {o : TryOutcome} {c : Option Byte} (h : Keeps s₀ s) : Keeps s₀ (endTry o c s) := by
  unfold endTry
  split
  · exact h
  next x hx =>
    extract_lets s1 s2 s3
    have h2 : Keeps s₀ s2 := onCampaign_keeps (ite_keeps (fun _ => leaveTalk_keeps h) fun _ => h)
    have h3 : Keeps s₀ s3 := by
      simp only [s3]
      split
      · exact ite_keeps (fun _ => withdrawHold_keeps (tellOutcome_keeps h2)) fun _ => h2
      · exact h2
    exact onCampaign_keeps (writeRecord_keeps h3)

theorem failStepTry_keeps {e : Option TableSlot} (h : Keeps s₀ s) : Keeps s₀ (failStepTry e s).2 := by
  unfold failStepTry
  split
  · exact h
  · exact handed_keeps (onCampaign_keeps h)

theorem countLoss_keeps (h : Keeps s₀ s) : Keeps s₀ (countLoss s) := onCampaign_keeps h

theorem handOver_keeps (h : Keeps s₀ s) : Keeps s₀ (handOver s).2 := by
  unfold handOver
  split
  · exact h
  · split
    · exact grantHold_keeps (clearStandby_keeps h)
    · exact clearStandby_keeps h

theorem beginRecovery_keeps {x : CurrentTry} (h : Keeps s₀ s) : Keeps s₀ (beginRecovery x s).2 :=
  countLoss_keeps (onCampaign_keeps (handOver_keeps h))

theorem afterTry_keeps {x : CurrentTry} {o : TryOutcome} (h : Keeps s₀ s) : Keeps s₀ (afterTry x o s).2 := by
  unfold afterTry
  split
  · exact h
  · split
    · exact h
    · exact h
    · exact clearStandby_keeps h
    · split
      · exact beginRecovery_keeps h
      · exact clearStandby_keeps h
    all_goals
      split
      · exact failStepTry_keeps h
      · exact countLoss_keeps h
      · exact h
      all_goals exact clearStandby_keeps h

theorem finishTry_keeps {o : TryOutcome} {c : Option Byte} (h : Keeps s₀ s) : Keeps s₀ (finishTry o c s).2 := by
  unfold finishTry
  split
  · exact h
  · exact afterTry_keeps (endTry_keeps h)

theorem checkRecovery_keeps {x : Option TableSlot} (h : Keeps s₀ s) : Keeps s₀ (checkRecovery x s).2 := by
  unfold checkRecovery
  split <;> exact h

theorem beginRecoveryTry_keeps {x : Option TableSlot} (h : Keeps s₀ s) : Keeps s₀ (beginRecoveryTry x s).2 := by
  unfold beginRecoveryTry
  split
  · exact h
  · split
    · split
      · exact h
      · split
        · exact h
        · exact bringTry_keeps (takeEntry_keeps (createTry_keeps h))
    · exact h

theorem failRecovery_keeps {x : Option TableSlot} (h : Keeps s₀ s) : Keeps s₀ (failRecovery x s).2 := by
  unfold failRecovery
  split
  · exact h
  · refine handed_keeps (onCampaign_keeps ?_)
    split
    · exact withdrawHold_keeps h
    · exact h

theorem beginLastResort_keeps (h : Keeps s₀ s) : Keeps s₀ (beginLastResort s).2 := by
  unfold beginLastResort
  dsimp only
  split
  · exact handed_keeps (onCampaign_keeps (onCampaign_keeps h))
  · exact handed_keeps (onCampaign_keeps h)

theorem lastResortTry_keeps {i : TableSlot} {e : Entry} (h : Keeps s₀ s) : Keeps s₀ (lastResortTry i e s).2 := by
  unfold lastResortTry
  split
  · exact bringTry_keeps (takeEntry_keeps (createTry_keeps h))
  · exact h

theorem passPosition_keeps (h : Keeps s₀ s) : Keeps s₀ (passPosition s).2 := by
  unfold passPosition
  split
  · exact h
  · split
    · dsimp only
      split
      · split
        · exact lastResortTry_keeps (onCampaign_keeps h)
        · exact handed_keeps (onCampaign_keeps h)
      · exact handed_keeps (onCampaign_keeps h)
    · split <;> exact h

theorem stopAwaiting_keeps {p : Port} (h : Keeps s₀ s) : Keeps s₀ (stopAwaiting p s) := onCampaign_keeps h

theorem resurveyPort_keeps {n : Nat} {p : Port} (h : Keeps s₀ s) : Keeps s₀ (resurveyPort n p s) := by
  unfold resurveyPort
  exact ite_keeps
    (fun _ => ite_keeps (fun ha => acceptOrder_keeps ha h) fun _ => stopAwaiting_keeps h) fun _ => h

theorem beginResurvey_keeps {u : ResurveyUse} (h : Keeps s₀ s) : Keeps s₀ (beginResurvey u s).2 :=
  eachPort_keeps (fun _ _ => resurveyPort_keeps) (onCampaign_keeps (bumpSerial_keeps h))

theorem completeResurvey_keeps (h : Keeps s₀ s) : Keeps s₀ (completeResurvey s).2 := by
  unfold completeResurvey
  split
  · exact h
  · dsimp only
    split
    · exact handed_keeps (onCampaign_keeps h)
    · exact handed_keeps (onCampaign_keeps h)
    · exact handed_keeps (onCampaign_keeps (onCampaign_keeps h))

theorem keepCallbackPort_keeps {p : Option Port} (h : Keeps s₀ s) : Keeps s₀ (keepCallbackPort p s) := by
  unfold keepCallbackPort
  split
  · exact h
  · split
    · dsimp only
      split
      · exact grantHold_keeps (onCampaign_keeps h)
      · exact onCampaign_keeps h
    all_goals exact h

theorem openWindow_keeps {p : Option Port} (h : Keeps s₀ s) : Keeps s₀ (openWindow p s).2 := by
  unfold openWindow
  dsimp only
  split
  · exact abandonWalk_keeps h
  · exact keepCallbackPort_keeps (onCampaign_keeps (abandonWalk_keeps h))

theorem closeCampaign_keeps {o : CampaignOutcome} (h : Keeps s₀ s) : Keeps s₀ (closeCampaign o s) :=
  writeSummary_keeps (onCampaign_keeps (withdrawAllHolds_keeps (clearStandby_keeps h)))

theorem toIdle_keeps (h : Keeps s₀ s) : Keeps s₀ (toIdle s) := onSupply_keeps (onCampaign_keeps h)

theorem endCampaign_keeps {o : CampaignOutcome} (h : Keeps s₀ s) : Keeps s₀ (endCampaign o s) := by
  unfold endCampaign
  exact toIdle_keeps (raise_keeps (closeCampaign_keeps h))

theorem goStep_keeps {g : Go} (h : Keeps s₀ s) : Keeps s₀ (goStep g s).2 := by
  cases g with
  | rest => exact h
  | walk slot => exact walkSlot_keeps h
  | planEnds => exact beginLastResort_keeps h
  | beginTry => exact beginStepTry_keeps h
  | select => exact selectEntry_keeps h
  | stepFails => exact failStep_keeps h
  | tryEnds outcome cause => exact finishTry_keeps h
  | recoveryCheck handed => exact checkRecovery_keeps h
  | recoveryTry handed => exact beginRecoveryTry_keeps h
  | recoveryFails handed => exact failRecovery_keeps h
  | pass => exact passPosition_keeps h
  | resurvey use => exact beginResurvey_keeps h
  | resurveyDone => exact completeResurvey_keeps h
  | window port => exact openWindow_keeps h
  | ends outcome => exact endCampaign_keeps h

theorem runGo_keeps {n : Nat} {g : Go} (h : Keeps s₀ s) : KeepsOpt s₀ (runGo n g s) := by
  induction n generalizing g s with
  | zero => rintro t ⟨⟩
  | succ n ih =>
    by_cases hg : g = .rest
    · rw [hg, runGo_rest]
      exact .some h
    · rw [runGo_succ n g s hg]
      exact ih (goStep_keeps h)

theorem runChain_keeps {k : StateKey} {g : Go} (h : Keeps s₀ s) : KeepsOpt s₀ (runChain k g s) :=
  (runGo_keeps h).map fun _ => reportChange_keeps

/-! ## What the campaign does with the records of other blocks (03, 04) -/

theorem closeOldWindow_keeps (h : Keeps s₀ s) : Keeps s₀ (closeOldWindow s) := by
  unfold closeOldWindow
  exact ite_keeps (fun _ => toIdle_keeps (closeCampaign_keeps h)) fun _ => h

theorem freshCampaign_keeps {o : CampaignOrigin} {q : Option Phase} {i : Option PlanSlot} (h : Keeps s₀ s) :
    Keeps s₀ (freshCampaign o q i s) := by
  unfold freshCampaign
  exact raise_keeps (onCampaign_keeps (clearLog_keeps h))

theorem startCampaign_keeps {o : CampaignOrigin} (h : Keeps s₀ s) : KeepsOpt s₀ (startCampaign o s) :=
  runChain_keeps (freshCampaign_keeps (closeOldWindow_keeps h))

theorem takePress_keeps (h : Keeps s₀ s) : KeepsOpt s₀ (takePress s) := by
  unfold takePress
  exact ite_keepsOpt (fun _ => startCampaign_keeps h) fun _ =>
    .some (raise_keeps (ite_keeps (fun _ => onCampaign_keeps h) fun _ => h))

theorem releaseTry_keeps {r : ReleaseReason} (h : Keeps s₀ s) : Keeps s₀ (releaseTry r s) := by
  unfold releaseTry
  split
  · exact h
  · split
    · exact h
    · exact submit_keeps (onCampaign_keeps (onTry_keeps h))

theorem ringExpires_keeps (h : Keeps s₀ s) : Keeps s₀ (ringExpires s) := reportChange_keeps (releaseTry_keeps h)

theorem takeEndCall_keeps (h : Keeps s₀ s) : Keeps s₀ (takeEndCall s) := by
  unfold takeEndCall
  split
  · exact h
  · exact onCampaign_keeps h
  · exact reportChange_keeps (releaseTry_keeps h)
  · exact reportChange_keeps (releaseTry_keeps h)
  · exact reportChange_keeps (clearStandby_keeps (leaveTalk_keeps (releaseTry_keeps h)))
  · exact endCampaign_keeps h
  · exact endCampaign_keeps h
  · exact ite_keeps (fun _ => onCampaign_keeps h) fun _ => h
  · exact endCampaign_keeps h

theorem waitExpires_keeps (h : Keeps s₀ s) : KeepsOpt s₀ (waitExpires s) := runChain_keeps (onCampaign_keeps h)

theorem tryAlerting_keeps {p : Port} (h : Keeps s₀ s) : Keeps s₀ (tryAlerting p s) := by
  unfold tryAlerting
  exact ite_keeps (fun _ => reportState_keeps (onCampaign_keeps (onTry_keeps h))) fun _ => h

theorem sendDataOf_keeps {x : CurrentTry} {p : Port} (h : Keeps s₀ s) : Keeps s₀ (sendDataOf x p s) := by
  unfold sendDataOf
  exact ite_keeps
    (fun _ => ite_keeps (fun ha => acceptOrder_keeps ha (onTry_keeps h)) fun _ => onTry_keeps h) fun _ => h

theorem endRecovery_keeps (h : Keeps s₀ s) : Keeps s₀ (endRecovery s) := by
  unfold endRecovery
  split
  · exact h
  · exact onCampaign_keeps h

theorem connectTry_keeps {i : TableSlot} {p : Port} (h : Keeps s₀ s) : Keeps s₀ (connectTry i p s) :=
  endRecovery_keeps (onCampaign_keeps (grantHold_keeps (tellConnected_keeps (onTry_keeps h))))

theorem tryConnected_keeps {p : Port} (h : Keeps s₀ s) : Keeps s₀ (tryConnected p s) := by
  unfold tryConnected
  split
  · exact h
  · refine ite_keeps (fun _ => ?_) fun _ => ite_keeps (fun _ => ?_) fun _ => h
    · split
      · exact h
      · exact seekStandby_keeps (sendDataOf_keeps (reportChange_keeps (connectTry_keeps h)))
    · exact reportChange_keeps (onCampaign_keeps (onTry_keeps h))

theorem tryCallEnded_keeps {c : EndCause} {m : Byte} (h : Keeps s₀ s) : KeepsOpt s₀ (tryCallEnded c m s) := by
  unfold tryCallEnded
  split
  · exact .some h
  · split
    · exact .some h
    · exact runChain_keeps h

theorem tryAttached_keeps {k : Bool} {c : Byte} (h : Keeps s₀ s) : KeepsOpt s₀ (tryAttached k c s) := by
  unfold tryAttached
  split
  · exact .some h
  · split
    · exact .some h
    · exact ite_keepsOpt (fun _ => runChain_keeps h) fun _ =>
        ite_keepsOpt (fun _ => runChain_keeps (dialTry_keeps h)) fun _ => runChain_keeps h

theorem takeAttached_keeps {u : Purpose} {k : Bool} {c : Byte} (h : Keeps s₀ s) :
    KeepsOpt s₀ (takeAttached u k c s) := by
  unfold takeAttached
  split
  · exact ite_keepsOpt (fun _ => tryAttached_keeps h) fun _ => .some h
  · exact .some (ite_keeps (fun _ => standbyAttached_keeps h) fun _ => h)
  all_goals exact .some h

theorem takeDataResult_keeps {n : Nat} {k : Bool} (h : Keeps s₀ s) : Keeps s₀ (takeDataResult n k s) :=
  onTry_keeps h

theorem answerTry_keeps {o : TryOrigin} {n : Nat} {p : Port} (h : Keeps s₀ s) : Keeps s₀ (answerTry o n p s) := by
  unfold answerTry
  dsimp only
  split
  · exact grantHold_keeps (onCampaign_keeps (useNumber_keeps h))
  · exact onCampaign_keeps (useNumber_keeps h)

theorem answerContext_keeps (h : Keeps s₀ s) : Keeps s₀ (answerContext s) := by
  unfold answerContext
  exact ite_keeps (fun _ => withdrawEverywhere_keeps (onCampaign_keeps h)) fun _ => freshCampaign_keeps h

theorem takeOffer_keeps {p : Port} {d : Option (List Byte)} (h : Keeps s₀ s) : Keeps s₀ (takeOffer p d s) := by
  unfold takeOffer
  refine ite_keeps (fun _ => ?_) fun _ => raise_keeps (submit_keeps h)
  exact seekStandby_keeps (reportChange_keeps (answerTry_keeps (answerContext_keeps
    (raise_keeps (submit_keeps (bumpSerial_keeps h))))))

theorem leaveAwaited_keeps {p : Port} (h : Keeps s₀ s) : KeepsOpt s₀ (leaveAwaited p s) := by
  unfold leaveAwaited
  exact ite_keepsOpt
    (fun _ => ite_keepsOpt (fun _ => .some (stopAwaiting_keeps h)) fun _ => runChain_keeps (stopAwaiting_keeps h))
    fun _ => .some h

theorem resurveyScanned_keeps {n : Nat} {p : Port} (h : Keeps s₀ s) : KeepsOpt s₀ (resurveyScanned n p s) := by
  unfold resurveyScanned
  exact ite_keepsOpt (fun _ => leaveAwaited_keeps h) fun _ => .some h

theorem endLostTry_keeps {p : Port} (h : Keeps s₀ s) : KeepsOpt s₀ (endLostTry p s) := by
  unfold endLostTry
  split
  · exact .some h
  · refine ite_keepsOpt (fun _ => ?_) fun _ => .some h
    split
    · exact .some h
    · exact runChain_keeps h

theorem campaignPortLost_keeps {p : Port} (h : Keeps s₀ s) : KeepsOpt s₀ (campaignPortLost p s) :=
  (endLostTry_keeps h).bind fun _ hu => leaveAwaited_keeps
    (dropCallbackPort_keeps (ite_keeps (fun _ => clearStandby_keeps hu) fun _ => hu))

theorem takeMode_keeps (h : Keeps s₀ s) : Keeps s₀ (takeMode s) := by
  unfold takeMode
  have h1 : Keeps s₀ (if s.supply.mode = .normal then s else clearStandby .supply s) :=
    ite_keeps (fun _ => h) fun _ => clearStandby_keeps h
  exact ite_keeps (fun _ => endCampaign_keeps h1) fun _ => h1

/-! ## Scans (01 R10, R11) -/

theorem sampleNetwork_keeps {p : Port} {m : Sample} (hm : m.inRange) (h : Keeps s₀ s) :
    Keeps s₀ (sampleNetwork p m s) := by
  unfold sampleNetwork
  split
  · exact sampleSlot_keeps hm h
  · exact h

theorem samplePass_keeps {p : Port} {l : List Sample} (hl : ∀ m ∈ l, m.inRange) (h : Keeps s₀ s) :
    Keeps s₀ (samplePass p l s) := by
  induction l generalizing s with
  | nil => exact h
  | cons m rest ih =>
    rw [List.forall_mem_cons] at hl
    exact ih hl.2 (sampleNetwork_keeps hl.1 h)

theorem sampleSlot_narrows {i : TableSlot} {m : Sample} (hm : m.inRange) :
    s.table.Narrows (sampleSlot i m s).table := by
  unfold sampleSlot
  split
  · exact .refl _
  next e he =>
    have hput : s.table.Narrows (s.table.putEntry i (some (e.sampled s.cfg.preferences m))) :=
      putEntry_narrows fun x hx => ⟨e, he, Option.some.inj hx ▸ sampled_tame _ hm e⟩
    dsimp only
    split
    · simpa using hput
    · exact hput

theorem sampleNetwork_narrows {p : Port} {m : Sample} (hm : m.inRange) :
    s.table.Narrows (sampleNetwork p m s).table := by
  unfold sampleNetwork
  split
  · exact sampleSlot_narrows hm
  · exact .refl _

theorem samplePass_narrows {p : Port} {l : List Sample} (hl : ∀ m ∈ l, m.inRange) :
    s.table.Narrows (samplePass p l s).table := by
  induction l generalizing s with
  | nil => exact .refl _
  | cons m rest ih =>
    rw [List.forall_mem_cons] at hl
    exact (sampleNetwork_narrows hl.1).trans (ih hl.2)

/-- Recording one network leaves every other network of the port as unknown as it was. -/
theorem recordNew_find_none {p : Port} {m : Sample} {net : NetworkId} (hne : net ≠ m.net)
    (h : s.table.find p net = none) : (recordNew p m s).table.find p net = none := by
  have hcreate (i : TableSlot) {u : State} (hu : u.table.find p net = none) :
      (createEntry i p m u).table.find p net = none := by
    have htable : (createEntry i p m u).table = u.table.putEntry i (some (newEntry u.cfg.preferences p m)) := by
      simp [createEntry]
    have hnet : (newEntry u.cfg.preferences p m).net = m.net := by simp [newEntry, Entry.sampled]
    rw [NetTable.find_none] at hu ⊢
    rintro j e he ⟨hp, hn⟩
    rw [htable, NetTable.entry_putEntry] at he
    split at he
    · cases he
      exact hne (hn.symm.trans hnet)
    · exact hu j e he ⟨hp, hn⟩
  unfold recordNew
  split
  · exact hcreate _ h
  · split
    · exact hcreate _ (freeSlot_find_none h)
    · split
      · exact hcreate _ (freeSlot_find_none h)
      · simpa using h

/-- The second pass records a network while the table has none of it: no listing before this one recorded it. -/
theorem recordPass_keeps {p : Port} {done : List NetworkId} {l : List Sample} (hl : ∀ m ∈ l, m.inRange)
    (hnew : ∀ m ∈ l, m.net ∉ done → s.table.find p m.net = none) (h : Keeps s₀ s) :
    Keeps s₀ (recordPass p done l s) := by
  induction l generalizing done s with
  | nil => exact h
  | cons m rest ih =>
    rw [List.forall_mem_cons] at hl hnew
    unfold recordPass
    refine ite_keeps (fun hc => ?_) fun hc => ?_
    · exact ih hl.2 (fun x hx hd => (sampleNetwork_narrows hl.1).find_none (hnew.2 x hx hd))
        (sampleNetwork_keeps hl.1 h)
    · have hfind := hnew.1 (by simpa using hc)
      refine ih hl.2 (fun x hx hd => ?_) (recordNew_keeps hl.1 hfind h)
      rw [List.mem_cons, not_or] at hd
      exact recordNew_find_none hd.1 (hnew.2 x hx hd.2)

theorem losePass_keeps {p : Port} {l : List Sample} (h : Keeps s₀ s) : Keeps s₀ (losePass p l s) :=
  eachSlot_keeps (fun _ _ => loseAndTell_keeps) h

theorem applyScan_keeps {p : Port} {l : List Sample} (hl : ∀ m ∈ l, m.inRange) (h : Keeps s₀ s) :
    Keeps s₀ (applyScan p l s) := by
  have hpart (test : Sample → Bool) : ∀ m ∈ l.filter test, m.inRange := fun m hm => hl m (List.mem_of_mem_filter hm)
  refine losePass_keeps (recordPass_keeps (hpart _) (fun m hm _ => ?_) (samplePass_keeps (hpart _) h))
  have hfind := (List.mem_filter.mp hm).2
  exact (samplePass_narrows (hpart _)).find_none (Option.isNone_iff_eq_none.mp hfind)

theorem applyServing_keeps {p : Port} {l q : Byte} (h : Keeps s₀ s) : Keeps s₀ (applyServing p l q s) := by
  unfold applyServing
  split
  · exact h
  · refine ite_keeps (fun _ => ?_) fun _ => h
    split
    · exact sampleSlot_keeps (sampleOf_inRange _ _ _) h
    · exact h

end Sys2Proof.Machine
end

section
/-! What every step keeps, continued: the events of the ports, the Survey Timer, the Supply Monitor, start-up and time
(06 to 09, 11). -/

namespace Sys2Proof.Machine

variable {s₀ s t : State}

/-! ## The ports' events (06) -/

theorem enterFault_keeps {p : Port} {d : Bool} {c : FaultCause} (h : Keeps s₀ s) :
    KeepsOpt s₀ (enterFault p d c s) :=
  (campaignPortLost_keeps (losePort_keeps (portDown_onPort_keeps h))).map fun _ hu =>
    raisePort_keeps (onPort_keeps hu fun k => k)

theorem wakeTimesOut_keeps {p : Port} (h : Keeps s₀ s) : KeepsOpt s₀ (wakeTimesOut p s) :=
  enterFault_keeps (onPort_keeps h fun k => k)

theorem sleepEnds_keeps {p : Port} (h : Keeps s₀ s) : Keeps s₀ (sleepEnds p s) := by
  have hdone : Keeps s₀ (s.onPort p fun c => { c with inFlight := none }) :=
    onPort_keeps h fun k => ⟨k.1, fun w => ⟨rfl, (k.2 w).2⟩⟩
  unfold sleepEnds
  refine ite_keeps (fun hq => onPort_keeps hdone fun k => ⟨k.1, fun _ => ⟨?_, ?_⟩⟩) fun _ => sendWake_keeps hdone
  · simp
  · simpa using hq

theorem sleepTimesOut_keeps {p : Port} (h : Keeps s₀ s) : Keeps s₀ (sleepTimesOut p s) :=
  raisePort_keeps (sleepEnds_keeps h)

theorem disablePort_keeps {p : Port} (h : Keeps s₀ s) : KeepsOpt s₀ (disablePort p s) := by
  unfold disablePort
  refine ite_keepsOpt (fun _ => .some h) fun _ => ?_
  have hcfg : Keeps s₀ (s.onConfig fun g => { g with enables := g.enables.put p false }) :=
    onConfig_keeps h fun k => k
  exact (campaignPortLost_keeps (losePort_keeps (portDown_onPort_keeps hcfg))).map fun _ => raisePort_keeps

theorem attachmentAfter_keeps {p : Port} {a : Attachment} (h : Keeps s₀ s) : Keeps s₀ (attachmentAfter p a s) := by
  unfold attachmentAfter
  exact ite_keeps (fun _ => h) fun _ => setAttachment_keeps h

theorem wakeCompleted_keeps {p : Port} {k : OrderKind} (h : Keeps s₀ s) : Keeps s₀ (wakeCompleted p k s) := by
  have hon : Keeps s₀ (s.onPort p fun c => { c with power := .on, restartCount := 0 }) :=
    onPort_keeps h fun k => orderly_of_busy (by simp [Power.idles]) k.1
  unfold wakeCompleted
  exact ite_keeps (fun _ => raisePort_keeps (onPort_keeps hon fun k => k)) fun _ => hon

theorem scanCompleted_keeps {p : Port} {o : Order} {l : List Sample} (hl : ∀ m ∈ l, m.inRange) (h : Keeps s₀ s) :
    KeepsOpt s₀ (scanCompleted p o l s) := by
  have happlied := applyScan_keeps (p := p) hl h
  unfold scanCompleted
  split
  · exact .some (surveyScanEnds_keeps happlied)
  · exact resurveyScanned_keeps happlied
  all_goals exact .some happlied

theorem attachCompleted_keeps {p : Port} {o : Order} {k : Bool} {c : Byte} (h : Keeps s₀ s) :
    KeepsOpt s₀ (attachCompleted p o k c s) := by
  unfold attachCompleted
  split
  · dsimp only
    split
    · exact takeAttached_keeps (attachmentAfter_keeps h)
    all_goals exact .some (attachmentAfter_keeps h)
  all_goals exact .some h

theorem clearCallOrders_keeps {p : Port} (h : Keeps s₀ s) : Keeps s₀ (clearCallOrders p s) :=
  onPort_keeps h fun k =>
    ⟨(List.length_filter_le _ _).trans k.1, fun w => ⟨(k.2 w).1, by simp [(k.2 w).2]⟩⟩

theorem callEndCompleted_keeps {p : Port} {o : Order} {c : EndCause} {m : Byte} (h : Keeps s₀ s) :
    KeepsOpt s₀ (callEndCompleted p o c m s) := by
  unfold callEndCompleted
  extract_lets s1 s2
  have h1 : Keeps s₀ s1 := setCall_keeps h
  have h2 : Keeps s₀ s2 := by
    simp only [s2]
    split
    · exact clearCallOrders_keeps h1
    all_goals exact h1
  exact ite_keepsOpt (fun _ => tryCallEnded_keeps h2) fun _ => .some (reportChange_keeps h2)

/-- The samples a notice carries are in range, as the reading of a SCAN_RESULT leaves them. -/
def Notice.inRange : Notice → Prop
  | .scanResult networks => ∀ m ∈ networks, m.inRange
  | .wakeDone | .sleepDone | .attachResult .. | .detachDone | .alerting | .connected | .callEnded ..
  | .incoming _ | .servingLevel .. | .dataResult _ | .alertFault | .alertRegistrationLost => True

theorem completion_keeps {p : Port} {o : Order} {n : Notice} (hn : n.inRange) (h : Keeps s₀ s) :
    KeepsOpt s₀ (completion p o n s) := by
  cases n with
  | wakeDone => exact .some (wakeCompleted_keeps h)
  | sleepDone => exact .some (sleepEnds_keeps h)
  | scanResult networks => exact scanCompleted_keeps hn h
  | attachResult ok cause => exact attachCompleted_keeps h
  | detachDone => exact .some (attachmentAfter_keeps h)
  | alerting => exact .some (ite_keeps (fun _ => tryAlerting_keeps (setCall_keeps h)) fun _ => setCall_keeps h)
  | connected => exact .some (ite_keeps (fun _ => tryConnected_keeps (setCall_keeps h)) fun _ => setCall_keeps h)
  | callEnded cause moduleCause => exact callEndCompleted_keeps h
  | dataResult sent =>
    refine .some ?_
    split
    · exact takeDataResult_keeps h
    · exact h
  | incoming digits => exact .some h
  | servingLevel level quality => exact .some h
  | alertFault => exact .some h
  | alertRegistrationLost => exact .some h

theorem completeOrder_keeps {p : Port} {o : Order} {n : Notice} (hn : n.inRange) (h : Keeps s₀ s) :
    KeepsOpt s₀ (completeOrder p o n s) :=
  (completion_keeps hn (onPort_keeps h fun k => ⟨k.1, fun w => ⟨rfl, (k.2 w).2⟩⟩)).map fun _ hu =>
    reportChange_keeps (sendNext_keeps hu)

theorem unaskedCallEnded_keeps {p : Port} {c : EndCause} {m : Byte} (h : Keeps s₀ s) :
    KeepsOpt s₀ (unaskedCallEnded p c m s) := by
  have hcleared : Keeps s₀ (clearCallOrders p (setCall p .none s)) := clearCallOrders_keeps (setCall_keeps h)
  unfold unaskedCallEnded
  exact ite_keepsOpt (fun _ => .some h) fun _ =>
    ite_keepsOpt (fun _ => tryCallEnded_keeps hcleared) fun _ => .some (reportChange_keeps hcleared)

theorem unaskedIncoming_keeps {p : Port} {d : Option (List Byte)} (h : Keeps s₀ s) :
    Keeps s₀ (unaskedIncoming p d s) := by
  unfold unaskedIncoming
  refine ite_keeps (fun _ => takeOffer_keeps ?_) fun _ => h
  have hoffered : Keeps s₀ (raisePort (.attention (.incoming d.isSome)) p (s.onPort p fun c => { c with
      call := .offered, attention := { c.attention with incoming := true } })) :=
    raisePort_keeps (onPort_keeps h fun k => k)
  exact ite_keeps (fun _ => clearStandby_keeps hoffered) fun _ => hoffered

theorem unaskedServing_keeps {p : Port} {l q : Byte} (h : Keeps s₀ s) : Keeps s₀ (unaskedServing p l q s) := by
  unfold unaskedServing
  exact ite_keeps (fun _ => applyServing_keeps (onPort_keeps h fun k => k)) fun _ => h

theorem registrationLost_keeps {p : Port} (h : Keeps s₀ s) : Keeps s₀ (registrationLost p s) := by
  unfold registrationLost
  refine raisePort_keeps (onPort_keeps (attachmentAfter_keeps ?_) fun k => k)
  split
  · exact loseAndTell_keeps h
  · exact h

theorem unaskedNotice_keeps {p : Port} {n : Notice} (h : Keeps s₀ s) : KeepsOpt s₀ (unaskedNotice p n s) := by
  unfold unaskedNotice
  split
  · exact unaskedCallEnded_keeps h
  · split
    · exact .some (tryAlerting_keeps (setCall_keeps h))
    · exact .some h
  · split
    · exact .some (tryConnected_keeps (setCall_keeps h))
    · exact .some h
  · exact .some (unaskedIncoming_keeps h)
  · exact .some (unaskedServing_keeps h)
  · exact enterFault_keeps h
  · exact .some (registrationLost_keeps h)
  all_goals exact .some h

theorem takeNotice_keeps {p : Port} {n : Notice} (hn : n.inRange) (h : Keeps s₀ s) :
    KeepsOpt s₀ (takeNotice p n s) := by
  unfold takeNotice
  refine ite_keepsOpt (fun _ => ?_) fun _ => .some h
  split
  · exact ite_keepsOpt (fun _ => completeOrder_keeps hn h) fun _ => unaskedNotice_keeps h
  · exact unaskedNotice_keeps h

/-! ### Every notice is read in range (07 R144) -/

theorem readScan_inRange {l : List NetworkGroup} {n : Notice} (h : readScan l = some n) : n.inRange := by
  unfold readScan at h
  split at h
  · cases h
    intro m hm
    obtain ⟨g, -, hg⟩ := List.mem_filterMap.mp hm
    unfold sampleOfGroup at hg
    split at hg
    · cases hg
    · split at hg
      · cases hg
        exact sampleOf_inRange _ _ _
      · cases hg
  · cases h

theorem parseNotice_inRange {f : Frame} {n : Notice} (h : parseNotice f = some n) : n.inRange := by
  unfold parseNotice at h
  split at h
  case h_3 =>
    unfold parseScan at h
    split at h
    · obtain ⟨l, -, hl⟩ := Option.bind_eq_some_iff.mp h
      exact readScan_inRange hl
    · cases h
  case h_6 | h_10 | h_11 =>
    simp only [parseNoticeByte, readProgress, readAlert, readData] at h
    repeat' split at h
    all_goals cases h <;> trivial
  case h_4 | h_7 | h_9 =>
    simp only [parseNoticePair, readAttach, readCallEnded] at h
    split at h <;> cases h
    trivial
  case h_8 =>
    unfold parseIncoming at h
    repeat' split at h
    all_goals cases h <;> trivial
  all_goals cases h <;> trivial

/-! ## Survey Timer and Supply Monitor (08, 09) -/

theorem surveyTick_keeps (h : Keeps s₀ s) : Keeps s₀ (surveyTick s) := by
  unfold surveyTick
  exact ite_keeps (fun _ => onSurvey_keeps h) fun _ => h

theorem periodEnds_keeps (h : Keeps s₀ s) : Keeps s₀ (periodEnds s) := by
  unfold periodEnds
  exact onSurvey_keeps (seekStandby_keeps (decayFailures_keeps (onSurvey_keeps
    (raise_keeps (onSurvey_keeps h)))))

theorem compareMatches_keeps {p : Port} (h : Keeps s₀ s) : Keeps s₀ (compareMatches p s) := by
  have hdue : Keeps s₀ (s.onSurvey fun v => { v with matchDue := v.matchDue.put p false }) := onSurvey_keeps h
  unfold compareMatches
  dsimp only
  split
  · exact onSurvey_keeps hdue
  · exact ite_keeps (fun ha => onSurvey_keeps (acceptOrder_keeps ha hdue)) fun _ => onSurvey_keeps hdue

theorem takeMatch_keeps {p : Port} (h : Keeps s₀ s) : Keeps s₀ (takeMatch p s) := by
  unfold takeMatch
  exact ite_keeps (fun _ => compareMatches_keeps h) fun _ => h

theorem finishStep_keeps (h : Keeps s₀ s) : Keeps s₀ (finishStep s) :=
  eachPort_keeps (fun _ _ => takeMatch_keeps) (ite_keeps (fun _ => periodEnds_keeps h) fun _ => h)

theorem holdByHost_keeps (h : Keeps s₀ s) : Keeps s₀ (holdByHost s) := by
  unfold holdByHost holdCounter
  exact onSurvey_keeps (onSurvey_keeps (finishStep_keeps h))

theorem surveyNamed_keeps {v : PerPort Bool} (h : Keeps s₀ s) : Keeps s₀ (surveyNamed v s) :=
  eachPort_keeps (fun p u hu => by
    unfold surveyPort
    exact ite_keeps (fun _ => submit_keeps hu) fun _ => hu) h

theorem takeStart_keeps (h : Keeps s₀ s) : Keeps s₀ (takeStart s) := by
  unfold takeStart
  exact ite_keeps (fun _ => onSupply_keeps h) fun _ => h

theorem enterHalt_keeps (h : Keeps s₀ s) : Keeps s₀ (enterHalt s) := by
  unfold enterHalt holdByHalt holdCounter
  exact raise_keeps (onSurvey_keeps (onSurvey_keeps (eachPort_keeps (fun _ _ => haltPort_keeps)
    (onSupply_keeps (takeStart_keeps (finishStep_keeps h))))))

theorem haltIfCutoff_keeps (h : Keeps s₀ s) : Keeps s₀ (haltIfCutoff s) := by
  unfold haltIfCutoff
  exact ite_keeps (fun _ => enterHalt_keeps h) fun _ => h

theorem changeMode_keeps {m : SupplyMode} (h : Keeps s₀ s) : Keeps s₀ (changeMode m s) := by
  unfold changeMode
  exact ite_keeps (fun _ => h) fun _ => takeMode_keeps (raise_keeps (onSupply_keeps h))

/-! ## Start-up (11 R197 to R200) -/

theorem get_set {α : Type} {n : Nat} (v : Vector α n) (i j : Fin n) (x : α) :
    (v.set i x).get j = if j = i then x else v.get j := by
  by_cases h : j = i
  · subst h
    rw [if_pos rfl]
    exact Vector.getElem_set_self j.isLt
  · rw [if_neg h]
    exact Vector.getElem_set_ne i.isLt j.isLt fun k => h (Fin.ext k.symm)

theorem get_replicate {α : Type} {n : Nat} (x : α) (i : Fin n) : (Vector.replicate n x).get i = x :=
  Vector.getElem_replicate i.isLt

theorem defaultSteps_inRange (slot : PlanSlot) : (defaultSteps.get slot).inRange := by
  have hget := get_set (Vector.replicate 64 (PlanStep.dial 0 ClassSet.all 1 false)) 0 slot
    (.dial 0 ClassSet.all 3 false)
  rw [get_replicate] at hget
  have hslot : defaultSteps.get slot = _ := hget
  rw [hslot]
  split <;> exact ⟨by decide, by decide⟩

theorem builtin_inRange : WorkingConfig.builtin.inRange := by
  refine ⟨?tuning, ?thresholds, ?period, ?period', ?compares, defaultSteps_inRange, ?directory, ?box, ?count, ?codes⟩
  case tuning => exact ⟨by decide, by decide, by decide, by decide, by decide⟩
  case thresholds => exact ⟨by decide, by decide, by decide, by decide⟩
  case period => decide
  case period' => decide
  case compares => intro p; cases p <;> decide
  case directory =>
    intro n
    rw [show WorkingConfig.builtin.directory.get n = ⟨[], false⟩ from get_replicate _ n]
    exact ⟨by decide, rfl⟩
  case box => exact ⟨by decide, by decide, by decide, by decide, by decide⟩
  case count => decide
  case codes => rintro r ⟨⟩

theorem loadedConfig_inRange {r : Store} (h : r.image.inRange) : (loadedConfig r).inRange := by
  unfold loadedConfig
  split
  · exact h
  · exact builtin_inRange

theorem afterReset_orderly (straps : Straps) (cfg : WorkingConfig) (p : Port) :
    (PortContext.afterReset (powerAfterReset straps cfg p)).orderly :=
  ⟨Nat.zero_le _, fun _ => ⟨rfl, rfl⟩⟩

/-- Start-up needs nothing of the state before but a stored image in range. -/
theorem startUp_keeps {k : ResetKind} (h : Keeps s₀ s) : Keeps s₀ (startUp k s) := by
  refine eachPort_keeps (fun p u hu => ?_) ?_
  · unfold startScan
    exact ite_keeps (fun _ => submit_keeps hu) fun _ => hu
  · rw [raise_eq]
    refine ⟨fun _ => ⟨Nat.zero_le _, Nat.one_le_ofNat⟩, fun _ => ⟨Nat.zero_le _, Nat.zero_le _⟩, fun g => ?_,
      fun _ i e he => ?_, fun _ i j a b ha => ?_, fun _ p => ?_⟩
    · obtain ⟨-, himage, -⟩ := h.config g
      exact ⟨loadedConfig_inRange himage, himage, by rintro x ⟨⟩⟩
    · simp [resetBlocks, NetTable.free, NetTable.entry, Vector.get] at he
    · simp [resetBlocks, NetTable.free, NetTable.entry, Vector.get] at ha
    · simpa [State.port, resetBlocks] using afterReset_orderly _ _ p

theorem conversionCompletes_keeps {v : Nat} (h : Keeps s₀ s) : Keeps s₀ (conversionCompletes v s) := by
  have hstored : Keeps s₀ (storeConversion v s) := onSupply_keeps h
  unfold conversionCompletes
  exact ite_keeps (fun _ => ite_keeps (fun _ => startUp_keeps hstored) fun _ => hstored) fun _ =>
    ite_keeps (fun _ => haltIfCutoff_keeps (changeMode_keeps hstored)) fun _ => changeMode_keeps hstored

theorem takeIdleNotice_keeps (h : Keeps s₀ s) : Keeps s₀ (takeIdleNotice s) :=
  haltIfCutoff_keeps (onSupply_keeps h)

/-! ## Time -/

theorem freeAged_keeps {i : TableSlot} (h : Keeps s₀ s) : Keeps s₀ (freeAged i s) :=
  freeSlot_keeps (onTable_keeps h (.refl s.table))

theorem takeDue_keeps {e : DueEvent} (h : Keeps s₀ s) : KeepsOpt s₀ (takeDue s e) := by
  cases e with
  | entryAged slot => exact .some (freeAged_keeps h)
  | periodEnd => exact .some (periodEnds_keeps h)
  | compareMatch p => exact .some (compareMatches_keeps h)
  | orderTimeout p => exact enterFault_keeps h
  | wakeTimeout p => exact wakeTimesOut_keeps h
  | sleepTimeout p => exact .some (sleepTimesOut_keeps h)
  | silenceTimeout p => exact enterFault_keeps h
  | portRestart p => exact .some (sendWake_keeps (onPort_keeps h fun k => k))
  | policySleep p => exact .some (sendSleep_keeps (onPort_keeps h fun k => k))
  | keepWarmWake p => exact .some (sendWake_keeps (onPort_keeps h fun k => k))
  | waitExpiry => exact waitExpires_keeps h
  | ringTimeout => exact .some (ringExpires_keeps h)
  | callbackWindowExpiry => exact .some (endCampaign_keeps h)
  | conversionStart => exact .some (onSupply_keeps h)
  | campaignIdleNotice => exact .some (takeIdleNotice_keeps h)

theorem takeIfDue_keeps {e : DueEvent} (h : Keeps s₀ s) : KeepsOpt s₀ (takeIfDue e s) := by
  unfold takeIfDue
  exact ite_keepsOpt (fun _ => takeDue_keeps h) fun _ => .some h

theorem settle_keeps {l : List DueEvent} (h : Keeps s₀ s) : KeepsOpt s₀ (settle l s) := by
  induction l generalizing s with
  | nil => exact .some h
  | cons e rest ih => exact (takeIfDue_keeps h).bind fun _ => ih

theorem portSecond_orderly {c : PortContext} (h : c.orderly) : (portSecond c).orderly :=
  ⟨h.1, fun w => ⟨by simp [portSecond, (h.2 w).1], (h.2 w).2⟩⟩

/-- A change of every port that leaves each orderly. -/
theorem ports_keeps {ports : PerPort PortContext} (h : Keeps s₀ s)
    (hports : ∀ p, (s.port p).orderly → (ports.get p).orderly) : Keeps s₀ { s with ports := ports } :=
  { h with orderly := fun k p => hports p (h.orderly k p) }

theorem countSecond_keeps (h : Keeps s₀ s) : Keeps s₀ (countSecond s) := by
  unfold countSecond noteTests
  refine ports_keeps (onSupply_keeps (surveyTick_keeps (ports_keeps (onCampaign_keeps (ageTable_keeps h))
    fun p k => ?_))) fun p k => ?_
  · rw [PerPort.get_map]
    exact portSecond_orderly k
  · rw [PerPort.get_build]
    exact k

theorem tickSecond_keeps (h : Keeps s₀ s) : KeepsOpt s₀ (tickSecond s) :=
  (settle_keeps h).map fun _ => countSecond_keeps

end Sys2Proof.Machine
end

section
/-! What every step keeps, concluded: the requests, the host link, every command, and the statements. -/

namespace Sys2Proof.Machine

variable {s₀ s t : State}

/-! ## Requests (10 section 10.4) -/

/-- What a request's handling does before and after its reply keeps what holds. -/
structure Handled.Kept (s₀ : State) (h : Handled) : Prop where
  before : Keeps s₀ h.before
  after : ∀ u, Keeps s₀ u → KeepsOpt s₀ (h.after u)

theorem answered_kept {code : ReplyCode} {contents : Contents} (h : Keeps s₀ s) :
    (answered code contents s).Kept s₀ :=
  ⟨h, fun _ => .some⟩

theorem ite_kept {c : Prop} [Decidable c] {a b : Handled} (ha : c → a.Kept s₀) (hb : ¬c → b.Kept s₀) :
    (if c then a else b).Kept s₀ := by
  split
  next hc => exact ha hc
  next hc => exact hb hc

theorem getD_map {α : Type} {o : Option α} {f : α → Nat} {d : Nat} {P : Nat → Prop} (hd : P d)
    (hf : ∀ a, P (f a)) : P ((o.map f).getD d) := by
  cases o with
  | none => exact hd
  | some a => exact hf a

theorem newTuning_inRange (a : TuningArgs) {t : Tuning} (h : t.inRange) : (newTuning a t).inRange := by
  obtain ⟨hfloor, hring, hring', hwindow, hlimit⟩ := h
  exact ⟨getD_map (P := (· ≤ 780)) hfloor fun _ => clampNat_le (by omega),
    getD_map (P := (10 ≤ ·)) hring fun _ => le_clampNat (by omega),
    getD_map (P := (· ≤ 120)) hring' fun _ => clampNat_le (by omega),
    getD_map (P := (· ≤ 3600)) hwindow fun _ => clampNat_le (by omega),
    getD_map (P := (· ≤ 7)) hlimit fun _ => clampNat_le (by omega)⟩

/-- R169's clamps in turn leave the thresholds 200 mV apart, whatever they are given. -/
theorem clampThresholds_ordered (t : Thresholds) : (clampThresholds t).ordered := by
  unfold clampThresholds Thresholds.ordered clampNat
  dsimp only
  split_ifs <;> omega

theorem newSurveyConfig_inRange (a : SurveyArgs) (q : Option (PerPort Policy)) {g : WorkingConfig} (h : g.inRange) :
    (newSurveyConfig a q g).inRange := by
  obtain ⟨htuning, hthresholds, hlo, hhi, hcompares, hrest⟩ := h
  refine ⟨htuning, hthresholds, getD_map (P := (30 ≤ ·)) hlo fun _ => le_clampNat (by omega),
    getD_map (P := (· ≤ 4095)) hhi fun _ => clampNat_le (by omega), fun p => ?_, hrest⟩
  unfold newSurveyConfig
  cases a.compares with
  | none => exact hcompares p
  | some c =>
    rw [Option.map_some, Option.getD_some, PerPort.get_map]
    exact clampNat_le (by omega)

theorem stepOf_inRange {r : StepBytes} {x : PlanStep} (h : stepOf? r = some x) : x.inRange := by
  unfold stepOf? at h
  split at h
  case h_1 =>
    split at h
    next ht =>
      obtain ⟨d, -, rfl⟩ := Option.map_eq_some_iff.mp h
      exact ht
    · cases h
  case h_2 =>
    split at h
    · cases h
    next hn =>
      cases h
      exact ⟨by omega, by have := r.operand.isLt; omega⟩
  case h_4 | h_5 | h_6 =>
    obtain ⟨y, -, rfl⟩ := Option.map_eq_some_iff.mp h
    trivial
  all_goals cases h
  all_goals trivial

theorem stepsOf_inRange {l : List StepBytes} {xs : List PlanStep} (h : stepsOf? l = some xs) :
    ∀ x ∈ xs, x.inRange := by
  induction l generalizing xs with
  | nil =>
    cases h
    simp
  | cons r rest ih =>
    unfold stepsOf? at h
    split at h
    next x ys hx hys =>
      cases h
      exact List.forall_mem_cons.mpr ⟨stepOf_inRange hx, ih hys⟩
    · cases h

theorem storeSteps_inRange {slot : PlanSlot} {xs : List PlanStep} {v : Vector PlanStep 64}
    (hxs : ∀ x ∈ xs, x.inRange) (hv : ∀ i, (v.get i).inRange) (i : PlanSlot) :
    ((storeSteps slot xs v).get i).inRange := by
  induction xs generalizing slot v with
  | nil => exact hv i
  | cons x rest ih =>
    rw [List.forall_mem_cons] at hxs
    refine ih hxs.2 fun j => ?_
    rw [get_set]
    split
    · exact hxs.1
    · exact hv j

theorem preferencesOf_inRange {l : List PreferenceBytes} {xs : List PreferenceRecord}
    (h : preferencesOf? l = some xs) : xs.length = l.length ∧ ∀ r ∈ xs, r.operator ≤ 999999 := by
  induction l generalizing xs with
  | nil =>
    cases h
    simp
  | cons r rest ih =>
    unfold preferencesOf? at h
    split at h
    next x ys hx hys =>
      cases h
      obtain ⟨hlen, hall⟩ := ih hys
      refine ⟨by simp [hlen], List.forall_mem_cons.mpr ⟨?_, hall⟩⟩
      unfold preferenceRecordOf? at hx
      split at hx
      next hle =>
        obtain ⟨q, -, rfl⟩ := Option.map_eq_some_iff.mp hx
        exact hle
      · cases hx
    · cases h

theorem all_take {α : Type} {test : α → Bool} {l : List α} {n : Nat} (h : l.all test = true) :
    (l.take n).all test = true := by
  rw [List.all_eq_true] at h ⊢
  exact fun x hx => h x (List.mem_of_mem_take hx)

theorem handleSetTuning_kept {a : TuningArgs} (h : Keeps s₀ s) : (handleSetTuning a s).Kept s₀ :=
  ⟨rescoreAll_keeps (onConfig_keeps h fun k => ⟨newTuning_inRange a k.1, k.2⟩),
    fun _ hu => .some (ite_keeps (fun _ => clearStandby_keeps hu) fun _ => hu)⟩

theorem applySurvey_keeps {a : SurveyArgs} {q : Option (PerPort Policy)} (h : Keeps s₀ s) :
    Keeps s₀ (applySurvey a q s) := by
  have hcfg : Keeps s₀ (s.onConfig (newSurveyConfig a q)) := onConfig_keeps h (newSurveyConfig_inRange a q)
  unfold applySurvey
  exact ite_keeps (fun _ => onSurvey_keeps hcfg) fun _ => hcfg

theorem handleSetSurvey_kept {a : SurveyArgs} (h : Keeps s₀ s) : (handleSetSurvey a s).Kept s₀ := by
  unfold handleSetSurvey
  split
  · exact answered_kept (applySurvey_keeps h)
  · split
    · exact answered_kept h
    · exact answered_kept (applySurvey_keeps h)

theorem handleLoadSteps_kept {b : Byte} {l : List StepBytes} (h : Keeps s₀ s) :
    (handleLoadSteps b l s).Kept s₀ := by
  unfold handleLoadSteps
  refine ite_kept (fun _ => answered_kept h) fun _ => ite_kept (fun _ => answered_kept h) fun _ => ?_
  split
  next slot steps hslot hsteps =>
    refine answered_kept (onConfig_keeps h fun ⟨h1, h2, h3, h4, h5, h6, h7⟩ => ⟨h1, h2, h3, h4, h5, ?_, h7⟩)
    exact storeSteps_inRange (stepsOf_inRange hsteps) h6
  next => exact answered_kept h

theorem handleLoadDestination_kept {b f : Byte} {l : List Byte} (h : Keeps s₀ s) :
    (handleLoadDestination b l f s).Kept s₀ := by
  unfold handleLoadDestination
  split
  · exact answered_kept h
  next n hn =>
    refine ite_kept (fun hd => answered_kept (onConfig_keeps h ?_)) fun _ => answered_kept h
    rintro ⟨h1, h2, h3, h4, h5, h6, h7, h8⟩
    refine ⟨h1, h2, h3, h4, h5, h6, fun i => ?_, h8⟩
    dsimp only
    rw [get_set]
    split
    · simpa [Destination.inRange] using hd
    · exact h7 i

theorem handleSetBoxRecord_kept {a b : List Byte} (h : Keeps s₀ s) : (handleSetBoxRecord a b s).Kept s₀ := by
  unfold handleSetBoxRecord
  refine ite_kept (fun hb => answered_kept (onConfig_keeps h ?_)) fun _ => answered_kept h
  rintro ⟨h1, h2, h3, h4, h5, h6, h7, -, h9⟩
  simp only [Bool.and_eq_true, Bool.not_eq_true', List.isEmpty_eq_false_iff] at hb
  obtain ⟨⟨hne, ha⟩, hloc⟩ := hb
  have hpos := List.length_pos_iff.mpr hne
  refine ⟨h1, h2, h3, h4, h5, h6, h7, ⟨?_, ?_, ?_, all_take ha, all_take hloc⟩, h9⟩ <;>
  · dsimp only
    rw [List.length_take]
    omega

theorem handleSetPreferences_kept {l : List PreferenceBytes} (h : Keeps s₀ s) :
    (handleSetPreferences l s).Kept s₀ := by
  unfold handleSetPreferences
  refine ite_kept (fun _ => answered_kept h) fun hlen => ?_
  split
  · exact answered_kept h
  next xs hxs =>
    obtain ⟨hsame, hall⟩ := preferencesOf_inRange hxs
    refine answered_kept (rescoreAll_keeps (onConfig_keeps h ?_))
    rintro ⟨h1, h2, h3, h4, h5, h6, h7, h8, -, -⟩
    exact ⟨h1, h2, h3, h4, h5, h6, h7, h8, by dsimp only; omega, hall⟩

/-- A port that is enabled had no orders, being DISABLED or DEAD before. -/
theorem enablePort_keeps {p : Port} (hdown : (s.port p).power = .disabled ∨ (s.port p).power = .dead)
    (h : Keeps s₀ s) : Keeps s₀ (enablePort p s) := by
  have hcfg : Keeps s₀ (s.onConfig fun g => { g with enables := g.enables.put p true }) :=
    onConfig_keeps h fun k => k
  have hidle : (s.port p).power = .off ∨ (s.port p).power = .disabled ∨ (s.port p).power = .fault
      ∨ (s.port p).power = .dead := by tauto
  unfold enablePort
  exact onPort_keeps hcfg fun k => ⟨k.1, fun _ => k.2 hidle⟩

theorem handleEnable_kept {b : Byte} (h : Keeps s₀ s) : (handleEnable b s).Kept s₀ := by
  unfold handleEnable
  split
  · exact answered_kept h
  next p hp =>
    exact ite_kept (fun _ => ite_kept
      (fun hdown => ⟨enablePort_keeps hdown h, fun _ hu => .some (raisePort_keeps hu)⟩)
      fun _ => answered_kept h) fun _ => answered_kept h

theorem beginCommit_keeps (h : Keeps s₀ s) : Keeps s₀ (beginCommit s) :=
  { h with
    config := fun k => by
      obtain ⟨hcfg, himage, -⟩ := h.config k
      exact ⟨hcfg, himage, fun g hg => Option.some.inj hg ▸ hcfg⟩ }

theorem handle_kept (r : Request) (h : Keeps s₀ s) : (handle r s).Kept s₀ := by
  cases r with
  | startCall =>
    exact ⟨h, fun _ hu => ite_keepsOpt (fun _ => startCampaign_keeps hu) fun _ => .some hu⟩
  | endCall => exact ⟨h, fun _ hu => .some (takeEndCall_keeps hu)⟩
  | setTuning a => exact handleSetTuning_kept h
  | setSupply a =>
    exact answered_kept (onConfig_keeps h fun k => ⟨k.1, clampThresholds_ordered _, k.2.2⟩)
  | setSurvey a => exact handleSetSurvey_kept h
  | surveyHold => exact answered_kept (holdByHost_keeps h)
  | surveyRelease => exact answered_kept (onSurvey_keeps h)
  | surveyNow ports => exact ite_kept (fun _ => answered_kept h) fun _ => answered_kept (surveyNamed_keeps h)
  | loadSteps first records => exact handleLoadSteps_kept h
  | loadDestination number digits flag => exact handleLoadDestination_kept h
  | setPreferences records => exact handleSetPreferences_kept h
  | setBoxRecord identity location => exact handleSetBoxRecord_kept h
  | readTableBySlot first count => exact ite_kept (fun _ => answered_kept h) fun _ => answered_kept h
  | readTableRanked position count => exact ite_kept (fun _ => answered_kept h) fun _ => answered_kept h
  | readPlanSteps first count =>
    unfold handle handleReadPlanSteps
    dsimp only
    split
    · exact answered_kept h
    · exact ite_kept (fun _ => answered_kept h) fun _ => answered_kept h
  | readPlanDestination number =>
    unfold handle handleReadPlanDestination
    dsimp only
    split <;> exact answered_kept h
  | readLogRecords position count => exact ite_kept (fun _ => answered_kept h) fun _ => answered_kept h
  | readPending => exact answered_kept (onLink_keeps h fun k => k)
  | setReports mask =>
    unfold handle handleSetReports
    dsimp only
    split
    · exact answered_kept h
    · exact answered_kept (onConfig_keeps h fun k => k)
  | portControlDisable port =>
    unfold handle handleDisable
    dsimp only
    split
    · exact answered_kept h
    · exact ⟨h, fun _ => disablePort_keeps⟩
  | portControlEnable port => exact handleEnable_kept h
  | clearAttention ports =>
    refine answered_kept (eachPort_keeps (fun p u hu => ?_) h)
    unfold clearAttentionOf
    exact ite_keeps (fun _ => onPort_keeps hu fun k => k) fun _ => hu
  | clearTable => exact ⟨clearUnheld_keeps h, fun _ hu => .some (raise_keeps hu)⟩
  | commitConfig => exact answered_kept (beginCommit_keeps h)
  | reset force =>
    exact ite_kept (fun _ => answered_kept h) fun _ => answered_kept (onLink_keeps h fun k => k)
  | status => exact answered_kept h
  | readPlanBox => exact answered_kept h
  | readLogSummary => exact answered_kept h

/-! ## The Host Link Unit (10) -/

theorem captureFlags_bounded {l : Link} (h : l.bounded) : (captureFlags l).bounded := by
  unfold captureFlags
  split
  next r rest hr =>
    obtain ⟨hin, hout⟩ := h
    rw [hr] at hout
    exact ⟨hin, hout⟩
  next => exact h

theorem placeFrame_bounded {l : Link} {f : OutFrame} (hfree : l.outbound.length < 8) (h : l.bounded) :
    (placeFrame f l).bounded := by
  have hplaced : ({ l with outbound := l.outbound ++ [f] } : Link).bounded := ⟨h.1, by simp; omega⟩
  unfold placeFrame
  dsimp only
  split
  · exact captureFlags_bounded hplaced
  · exact hplaced

theorem placeReply_keeps {b : Byte} {code : ReplyCode} {contents : Contents} (h : Keeps s₀ s) :
    Keeps s₀ (placeReply b code contents s) := by
  unfold placeReply
  exact ite_keeps (fun hfree => onLink_keeps h (placeFrame_bounded hfree)) fun _ => h

theorem handled_keeps {b : Byte} {x : Handled} (h : x.Kept s₀) :
    KeepsOpt s₀ (x.after (placeReply b x.code x.contents x.before)) :=
  h.after _ (placeReply_keeps h.before)

theorem serveFrame_keeps {f : Frame} (h : Keeps s₀ s) : KeepsOpt s₀ (serveFrame f s) := by
  unfold serveFrame
  split
  · exact .some (placeReply_keeps h)
  · exact .some (placeReply_keeps h)
  · exact handled_keeps (answered_kept h)
  · exact .some (beginCommit_keeps h)
  · exact handled_keeps (handle_kept _ h)

theorem takeHead_keeps (h : Keeps s₀ s) : KeepsOpt s₀ (takeHead s) := by
  unfold takeHead
  split
  · exact .some h
  next f rest hf =>
    refine serveFrame_keeps (onLink_keeps h fun ⟨hin, hout⟩ => ⟨?_, hout⟩)
    rw [hf] at hin
    exact Nat.le_of_succ_le hin

theorem takeRequests_keeps {n : Nat} (h : Keeps s₀ s) : KeepsOpt s₀ (takeRequests n s) := by
  induction n generalizing s with
  | zero => exact .some h
  | succ n ih => exact ite_keepsOpt (fun _ => (takeHead_keeps h).bind fun _ => ih) fun _ => .some h

theorem offerFrame_keeps {f : Frame} (h : Keeps s₀ s) : Keeps s₀ (offerFrame f s) := by
  unfold offerFrame
  refine ite_keeps (fun hroom => onLink_keeps h fun ⟨hin, hout⟩ => ⟨?_, hout⟩) fun _ => onLink_keeps h fun k => k
  dsimp only
  rw [List.length_append, List.length_singleton]
  omega

theorem frameArrives_keeps {f : Frame} (h : Keeps s₀ s) : KeepsOpt s₀ (frameArrives f s) :=
  takeRequests_keeps (offerFrame_keeps h)

theorem hostFrame_keeps {f : Frame} (h : Keeps s₀ s) : KeepsOpt s₀ (hostFrame f s) :=
  frameArrives_keeps (onLink_keeps h fun k => k)

theorem hostBytes_keeps {l : List Byte} (h : Keeps s₀ s) : KeepsOpt s₀ (hostBytes l s) := by
  induction l generalizing s with
  | nil => exact .some h
  | cons b rest ih =>
    have hrx : Keeps s₀ (s.onLink fun l => { l with rx := (receiveByte s.link.rx b).1 }) :=
      onLink_keeps h fun k => k
    refine KeepsOpt.bind ?_ fun _ => ih
    unfold hostHeard
    split
    · exact .some hrx
    · exact .some (onLink_keeps hrx fun k => k)
    · exact frameArrives_keeps hrx

theorem hostGap_keeps (h : Keeps s₀ s) : Keeps s₀ (hostGap s) := by
  unfold hostGap
  split
  · exact h
  · exact onLink_keeps h fun k => k

theorem moduleBytes_keeps {p : Port} {l : List Byte} (h : Keeps s₀ s) : KeepsOpt s₀ (moduleBytes p l s) := by
  induction l generalizing s with
  | nil => exact .some h
  | cons b rest ih =>
    have hrx : Keeps s₀ (s.onPort p fun c => { c with rx := (receiveByte (s.port p).rx b).1 }) :=
      onPort_keeps h fun k => k
    refine KeepsOpt.bind ?_ fun _ => ih
    unfold moduleHeard
    split
    · exact .some hrx
    · exact .some hrx
    · split
      next hn => exact takeNotice_keeps (parseNotice_inRange hn) hrx
      next => exact .some hrx

theorem moduleNotice_keeps {p : Port} {o : Option Notice} (ho : ∀ n, o = some n → n.inRange) (h : Keeps s₀ s) :
    KeepsOpt s₀ (moduleNotice p o s) := by
  have hidle : Keeps s₀ (s.onPort p fun c => { c with rx := .hunting }) := onPort_keeps h fun k => k
  unfold moduleNotice
  dsimp only
  split
  next n => exact takeNotice_keeps (ho n rfl) hidle
  next => exact .some hidle

theorem frameSent_keeps (h : Keeps s₀ s) : KeepsOpt s₀ (frameSent s) := by
  unfold frameSent
  split
  · exact .some h
  next f rest hf =>
    refine ite_keepsOpt (fun _ => .some (startUp_keeps h)) fun _ => takeRequests_keeps (onLink_keeps h ?_)
    rintro ⟨hin, hout⟩
    rw [hf] at hout
    exact captureFlags_bounded ⟨hin, Nat.le_of_succ_le hout⟩

theorem commitEnds_keeps {v : Bool} (h : Keeps s₀ s) : KeepsOpt s₀ (commitEnds v s) := by
  unfold commitEnds
  split
  · exact .some h
  next image himage =>
    have hstored : Keeps s₀ { s with store := ⟨v, image, imageCrc image, none⟩ } :=
      { h with
        config := fun k => by
          obtain ⟨hcfg, -, hwriting⟩ := h.config k
          exact ⟨hcfg, hwriting image himage, by rintro g ⟨⟩⟩ }
    exact takeRequests_keeps (ite_keeps (fun _ => placeReply_keeps hstored) fun _ => placeReply_keeps hstored)

/-! ## The step -/

theorem keeps_of_outcomeOf {r : Option State} (h : KeepsOpt s₀ r) (ht : outcomeOf r = .next t) : Keeps s₀ t := by
  cases r with
  | none => cases ht
  | some u =>
    cases ht
    exact h _ rfl

/-- Every command keeps every invariant. -/
theorem exec_keeps {c : Instr} (h : Keeps s₀ s) (ht : exec c s = .next t) : Keeps s₀ t := by
  cases c with
  | powerOnReset straps => cases ht; exact startUp_keeps h.congr
  | pinReset straps => cases ht; exact startUp_keeps h.congr
  | callPress =>
    simp only [exec, execCallPress] at ht
    split at ht
    · exact keeps_of_outcomeOf (takePress_keeps h.congr) ht
    · cases ht; exact h
  | callLineRelease => cases ht; exact h.congr
  | tick => exact keeps_of_outcomeOf (tickSecond_keeps h) ht
  | entryAged slot => exact keeps_of_outcomeOf (takeIfDue_keeps h) ht
  | waitExpiry => exact keeps_of_outcomeOf (takeIfDue_keeps h) ht
  | ringTimeout => exact keeps_of_outcomeOf (takeIfDue_keeps h) ht
  | callbackWindowExpiry => exact keeps_of_outcomeOf (takeIfDue_keeps h) ht
  | orderTimeout port => exact keeps_of_outcomeOf (takeIfDue_keeps h) ht
  | wakeTimeout port => exact keeps_of_outcomeOf (takeIfDue_keeps h) ht
  | sleepTimeout port => exact keeps_of_outcomeOf (takeIfDue_keeps h) ht
  | silenceTimeout port => exact keeps_of_outcomeOf (takeIfDue_keeps h) ht
  | portRestart port => exact keeps_of_outcomeOf (takeIfDue_keeps h) ht
  | policySleep port => exact keeps_of_outcomeOf (takeIfDue_keeps h) ht
  | keepWarmWake port => exact keeps_of_outcomeOf (takeIfDue_keeps h) ht
  | periodEnd => exact keeps_of_outcomeOf (takeIfDue_keeps h) ht
  | compareMatch point => exact keeps_of_outcomeOf (takeIfDue_keeps h) ht
  | conversionStart => exact keeps_of_outcomeOf (takeIfDue_keeps h) ht
  | campaignIdleNotice => exact keeps_of_outcomeOf (takeIfDue_keeps h) ht
  | conversionDone code =>
    simp only [exec, execConversionDone] at ht
    split at ht
    · cases ht; exact conversionCompletes_keeps h
    · cases ht; exact h
  | hostFrameReceived bytes => exact keeps_of_outcomeOf (hostBytes_keeps h) ht
  | receiveGap => cases ht; exact hostGap_keeps h
  | outboundFrameSent => exact keeps_of_outcomeOf (frameSent_keeps h) ht
  | moduleFrameError port bytes => exact keeps_of_outcomeOf (moduleBytes_keeps h) ht
  | moduleReceiveGap port => cases ht; exact onPort_keeps h fun k => k
  | commitDone verified => exact keeps_of_outcomeOf (commitEnds_keeps h) ht
  | unknownRequest type payload => exact keeps_of_outcomeOf (hostFrame_keeps h) ht
  | unknownNotice port type payload =>
    exact keeps_of_outcomeOf (moduleNotice_keeps (fun _ => parseNotice_inRange) h) ht
  | scanResult port networks =>
    exact keeps_of_outcomeOf (moduleNotice_keeps (fun _ => readScan_inRange) h) ht
  | wakeDone | sleepDone | attachResult | detachDone | callProgressAlerting | callProgressConnected | callEnded
  | incoming | servingLevel | dataResult | moduleAlertFault | moduleAlertRegistrationLost =>
    exact keeps_of_outcomeOf (moduleNotice_keeps (fun _ hn => by cases hn; trivial) h) ht
  | status | startCall | endCall | setTuning | setSupply | setSurvey | surveyHold | surveyRelease | surveyNow
  | loadSteps | loadDestination | setPreferences | setBoxRecord | readTableBySlot | readTableRanked | readPlanSteps
  | readPlanDestination | readPlanBox | readLogRecords | readLogSummary | readPending | setReports
  | portControlDisable | portControlEnable | clearAttention | clearTable | commitConfig | reset =>
    exact keeps_of_outcomeOf (hostFrame_keeps h) ht

theorem step_keeps (h : step s = .next t) : Keeps s t := by
  unfold step at h
  split at h
  · cases h
    exact .refl s
  · exact exec_keeps (Keeps.refl s).congr h

/-! ## The statements -/

/-- Settles O55: every command keeps the bounds of the host link's queues and of the log, each by itself. -/
theorem queuesBounded : Obligations.QueuesBounded := by
  unfold Obligations.QueuesBounded
  exact ⟨fun s t hs h => (step_keeps h).link hs, fun s t hs h => (step_keeps h).log hs⟩

/-- Settles O56: what a request stores is checked or clamped, and start-up loads the image or the defaults. -/
theorem configurationInRange : Obligations.ConfigurationInRange := by
  unfold Obligations.ConfigurationInRange
  exact fun s t hs h => (step_keeps h).config hs

/-- Settles O57: an average stays between its own value and four times the clamped sample. -/
theorem tableInRange : Obligations.TableInRange := by
  unfold Obligations.TableInRange
  exact fun s t hs h => (step_keeps h).range hs

/-- Settles O58: an entry is created by the second pass of a SCAN_RESULT alone, while its network has none. -/
theorem tableDistinct : Obligations.TableDistinct := by
  unfold Obligations.TableDistinct
  exact fun s t hs h => (step_keeps h).distinct hs

/-- Settles O59: a port accepts an order only where it has room or makes some, and goes down with its orders. -/
theorem portsOrderly : Obligations.PortsOrderly := by
  unfold Obligations.PortsOrderly
  exact fun s t hs h => (step_keeps h).orderly hs

/-- Settles O60. -/
theorem resetMeetsInvariants : Obligations.ResetMeetsInvariants := by
  unfold Obligations.ResetMeetsInvariants
  refine ⟨⟨by decide, by decide⟩, ⟨by decide, by decide⟩, ⟨builtin_inRange, builtin_inRange, ?writing⟩, ?range,
    ?distinct, ?orderly⟩
  case writing => rintro g ⟨⟩
  case range =>
    intro i e he
    exact absurd (he.symm.trans (get_replicate none i)) (Option.some_ne_none e)
  case distinct =>
    intro i j a b ha
    exact absurd (ha.symm.trans (get_replicate none i)) (Option.some_ne_none a)
  case orderly =>
    intro p
    have hport : State.reset.port p = startedPort := by cases p <;> rfl
    rw [hport]
    exact orderly_of_busy (by simp [startedPort, PortContext.afterReset, Power.idles]) (by decide)

end Sys2Proof.Machine
end

section
/-! Reports and the blocks they do not touch: a change of any block but the link and the configuration can be
made before the report as well as after it. With it the smallest events: the step, a press, one entry aged, one
timer. -/

namespace Sys2Proof.Machine

variable (r : Report) (s : State)

/-! ## A report and a change of another block -/

@[simp] theorem raise_cfg : (raise r s).cfg = s.cfg := by rw [raise_eq]

@[simp] theorem raise_port (p : Port) : (raise r s).port p = s.port p := by rw [raise_eq]; rfl

@[simp] theorem raise_onTable (f : NetTable → NetTable) : (raise r s).onTable f = raise r (s.onTable f) := by
  simp only [raise_eq, State.onTable]

@[simp] theorem raise_onLog (f : AttemptLog → AttemptLog) : (raise r s).onLog f = raise r (s.onLog f) := by
  simp only [raise_eq, State.onLog]

@[simp] theorem raise_onCampaign (f : Campaign → Campaign) :
    (raise r s).onCampaign f = raise r (s.onCampaign f) := by
  simp only [raise_eq, State.onCampaign]

@[simp] theorem raise_onPort (p : Port) (f : PortContext → PortContext) :
    (raise r s).onPort p f = raise r (s.onPort p f) := by
  simp only [raise_eq, State.onPort]

@[simp] theorem raise_onSurvey (f : Survey → Survey) : (raise r s).onSurvey f = raise r (s.onSurvey f) := by
  simp only [raise_eq, State.onSurvey]

@[simp] theorem raise_onSupply (f : Supply → Supply) : (raise r s).onSupply f = raise r (s.onSupply f) := by
  simp only [raise_eq, State.onSupply]

@[simp] theorem raise_bumpSerial : (raise r s).bumpSerial = raise r s.bumpSerial := by
  simp only [raise_eq, State.bumpSerial]

@[simp] theorem raise_store : (raise r s).store = s.store := by rw [raise_eq]

@[simp] theorem raise_board : (raise r s).board = s.board := by rw [raise_eq]

@[simp] theorem raise_armed : (raise r s).armed = s.armed := by rw [raise_eq]

/-! ## Outcomes -/

@[simp] theorem outcomeOf_some : outcomeOf (some s) = .next s := rfl

theorem outcomeOf_eq_next {o : Option State} {t : State} : outcomeOf o = .next t ↔ o = some t := by
  cases o <;> simp [outcomeOf]

/-! ## Key of a change -/

/-- A change that leaves state, phase, route and resurvey alone is not reported. -/
theorem reportChange_same {key : StateKey} {t : State} (h : stateKey t.campaign = key) : reportChange key t = t := by
  simp [reportChange, h]

/-- A change of state is reported with the values as they stand. -/
theorem reportChange_moved {key : StateKey} {t : State} (h : stateKey t.campaign ≠ key)
    (hactive : t.campaign.state ≠ .idle) : reportChange key t =
      raise (.state t.campaign.state t.campaign.phase t.campaign.origin
        (t.campaign.attempt.bind CurrentTry.number) t.campaign.route none) t := by
  rw [reportChange_eq, if_neg (by tauto)]

/-- Another campaign state is another key. -/
theorem stateKey_ne_of_state {a b : Campaign} (h : a.state ≠ b.state) : stateKey a ≠ stateKey b :=
  fun k => h (congrArg Prod.fst k)

/-! ## The step -/

/-- Settles O1. -/
theorem stepTakesFront : Obligations.StepTakesFront := by
  unfold Obligations.StepTakesFront
  constructor
  · intro c rest s h
    simp [step, h]
  · intro s h
    simp [step, h]

/-! ## Presses -/

theorem exec_callPress (h : s.armed = true) :
    exec .callPress s = outcomeOf (takePress { s with armed := false }) := by
  simp [exec, execCallPress, h]

/-- A press that may not start a campaign is only reported, and counted while one goes on (03 R56). -/
theorem takePress_refused (h : canStart s = false) :
    takePress s = some (
      let active := s.campaign.active && s.campaign.state != .callback
      let t := if active then s.onCampaign fun c => { c with presses := countUp 255 c.presses } else s
      raise (.press t.campaign.presses t.campaign.state t.campaign.active) t) := by
  simp [takePress, h]

/-- Settles O3. -/
theorem pressTaken : Obligations.PressTaken := by
  unfold Obligations.PressTaken
  refine ⟨fun s => rfl, fun s h => by simp [exec, execCallPress, h], fun s t h ht => ?_, fun s h hidle hcall => ?_,
    fun s h hidle hsupply => ?_⟩
  · rw [exec_callPress s h, outcomeOf_eq_next] at ht
    have houtside := takePress_frame ht
    simp only [State.outside, Prod.mk.injEq] at houtside
    exact houtside.2.2.2.2.1
  · have hrefused : canStart { s with armed := false } = false := by simp [canStart, hidle, hcall]
    have hactive : (s.campaign.state != .idle) = true := bne_iff_ne.mpr hidle
    rw [exec_callPress s h, takePress_refused _ hrefused]
    simp [Campaign.active, hactive, hcall, State.onCampaign, countUp_eq_min]
  · have hrefused : canStart { s with armed := false } = false := by
      rcases hsupply with hs | hs <;> simp [canStart, hs]
    rw [exec_callPress s h, takePress_refused _ hrefused]
    simp [Campaign.active, hidle]

/-- The start of a campaign out of IDLE, up to the first link of its walk (03 R58). -/
theorem freshCampaign_idle (origin : CampaignOrigin) (h : s.campaign.state = .idle) :
    freshCampaign origin (some .plan) (some s.cfg.tuning.entrySlot) (closeOldWindow s) =
      raise (.started origin) { s with
        log := AttemptLog.empty
        campaign := { Campaign.inIdle with
          origin := some origin, phase := some .plan, cursor := some s.cfg.tuning.entrySlot } } := by
  simp [freshCampaign, closeOldWindow, h, clearLog, State.onLog, State.onCampaign]

/-- The walk that comes to a WAIT rests there (02 R36). -/
theorem goStep_walk_wait {slot : PlanSlot} {seconds : Nat} {more : Bool} (h : s.cfg.steps.get slot = .wait seconds more) :
    goStep (.walk slot) s = (.rest, s.onCampaign fun c => { c with
      cursor := some slot, controlCount := 0, waitTimer := some seconds, state := .pause }) := by
  simp [goStep, walkSlot, h, State.onCampaign]

/-- A start out of IDLE whose plan begins with a WAIT (03 R58, 02 R36). -/
theorem startCampaign_wait (origin : CampaignOrigin) {seconds : Nat} {more : Bool} (hidle : s.campaign.state = .idle)
    (hstep : s.cfg.steps.get s.cfg.tuning.entrySlot = .wait seconds more) :
    startCampaign origin s = some
      (raise (.state .pause (some .plan) (some origin) none none none)
        (raise (.started origin) { s with
          log := AttemptLog.empty
          campaign := { Campaign.inIdle with
            state := .pause
            phase := some .plan
            origin := some origin
            cursor := some s.cfg.tuning.entrySlot
            waitTimer := some seconds } })) := by
  have hmoved : ∀ c : Campaign, c.state = .pause → stateKey c ≠ stateKey s.campaign := fun c hc =>
    stateKey_ne_of_state (by rw [hc, hidle]; decide)
  rw [startCampaign]
  dsimp only
  rw [freshCampaign_idle s origin hidle, runChain_one _ _ _ _ (by simp) (goStep_walk_wait _ (by simpa using hstep)),
    reportChange_moved (hmoved _ (by simp)) (by simp), raise_onCampaign]
  simp only [raise_frame, State.onCampaign]
  rfl

theorem canStart_iff : canStart s = true ↔
    (s.campaign.state = .idle ∨ s.campaign.state = .callback) ∧ s.supply.mode ≠ .cutoff ∧ s.supply.halt = false := by
  simp [canStart, and_assoc]

/-- Settles O4. -/
theorem pressStartsCampaign : Obligations.PressStartsCampaign := by
  unfold Obligations.PressStartsCampaign
  intro s seconds more harmed hidle hmode hhalt hstep
  have hstart : canStart { s with armed := false } = true := (canStart_iff _).mpr ⟨.inl hidle, hmode, hhalt⟩
  rw [exec_callPress s harmed, takePress, if_pos hstart,
    startCampaign_wait { s with armed := false } .button hidle hstep]
  rfl

end Sys2Proof.Machine
end

section
/-! What the orders of the ports do, one equation per case (06 R116 to R122): a change of call state and of
attachment, the sending of each kind, the placing of an accepted order on a port that is free, OFF or busy, the
bringing of a port to a network, and the HANGUP of a try. -/

namespace Sys2Proof.Machine

variable {s : State} {p : Port} {o : Order}

/-! ## Changes of one block that come to the same -/

theorem State.onPort_congr {f g : PortContext → PortContext} (h : f (s.port p) = g (s.port p)) :
    s.onPort p f = s.onPort p g := by
  have h' : f (s.ports.get p) = g (s.ports.get p) := h
  simp only [State.onPort, h']

theorem State.onPort_id {f : PortContext → PortContext} (h : f (s.port p) = s.port p) : s.onPort p f = s := by
  have h' : f (s.ports.get p) = s.ports.get p := h
  simp only [State.onPort, h', PerPort.put_get]

theorem State.onCampaign_congr {f g : Campaign → Campaign} (h : f s.campaign = g s.campaign) :
    s.onCampaign f = s.onCampaign g := by
  simp only [State.onCampaign, h]

theorem State.onCampaign_id {f : Campaign → Campaign} (h : f s.campaign = s.campaign) : s.onCampaign f = s := by
  simp only [State.onCampaign, h]

/-! ## Call states and attachments (06 R121, R122) -/

/-- The audio route after a change of the call state of a port (03 R81). -/
def routeAfter (p : Port) (new : CallState) (route : Option Port) : Option Port :=
  if new ≠ .connected ∧ route = some p then none else route

@[simp] theorem routeAfter_none (p : Port) (new : CallState) : routeAfter p new none = none := by
  simp [routeAfter]

theorem routeAfter_of_ne {new : CallState} {route : Option Port} (h : route ≠ some p) :
    routeAfter p new route = route := by
  simp [routeAfter, h]

/-- A change of call state at a port that is not the standby's, or that has or keeps a call there. -/
theorem setCall_eq {new : CallState}
    (h : (s.port p).call ≠ .none ∨ new = .none ∨ isStandbyPort s p = false) :
    setCall p new s = (s.onPort p fun c =>
        { c with call := new, silenceTimer := silenceAfter c.call new c.silenceTimer }).onCampaign
      fun c => { c with route := routeAfter p new c.route } := by
  unfold setCall
  extract_lets old s1 s2
  have hstays : s2 = s1 := if_neg fun ⟨hc, hn, hb⟩ => by
    rcases h with h | h | h
    · exact h hc
    · exact hn h
    · exact absurd hb (by rw [show isStandbyPort s1 p = isStandbyPort s p from rfl, h]; simp)
  rw [hstays]
  by_cases hr : new ≠ .connected ∧ s.campaign.route = some p
  · have hgone : routeAfter p new s.campaign.route = none := if_pos hr
    refine (if_pos hr).trans ?_
    simp only [State.onCampaign, State.onPort_campaign, s1, hgone]
    rfl
  · have hstill : routeAfter p new s.campaign.route = s.campaign.route := if_neg hr
    refine (if_neg hr).trans ?_
    simp only [State.onCampaign, State.onPort_campaign, s1, hstill]
    rfl

/-- Where the port is not the route either, the port alone changes. -/
theorem setCall_port {new : CallState}
    (h : (s.port p).call ≠ .none ∨ new = .none ∨ isStandbyPort s p = false)
    (hroute : s.campaign.route ≠ some p) :
    setCall p new s = s.onPort p fun c =>
      { c with call := new, silenceTimer := silenceAfter c.call new c.silenceTimer } := by
  rw [setCall_eq h]
  exact State.onCampaign_id (by simp [routeAfter_of_ne hroute])

theorem setAttachment_eq {a : Attachment} (h : a ≠ .none ∨ s.campaign.callbackPort ≠ some p) :
    setAttachment p a s = s.onPort p fun c => { c with attachment := a } := by
  unfold setAttachment dropCallbackPort
  rcases h with h | h
  · rw [if_neg h]
  · dsimp only
    split
    · exact if_neg h
    · rfl

/-- The attachment once an order is accepted (06 R121). -/
def Order.attachmentOn (o : Order) (a : Attachment) : Attachment :=
  match o.kind with
  | .attach entry net => .attaching entry net
  | .detach => .detaching
  | .wake _ | .sleep | .scan | .dial _ | .answer | .hangup | .refuse | .sendData _ => a

theorem registering_eq : registering p o s = s.onPort p fun c => { c with attachment := o.attachmentOn c.attachment } := by
  unfold registering Order.attachmentOn
  cases o.kind <;> first
    | exact setAttachment_eq (.inl (by simp))
    | exact (State.onPort_id rfl).symm

/-- An attachment that an answer or a sent order gives, unless an order that changes it is queued. -/
theorem attachmentAfter_eq {a : Attachment} (h : a ≠ .none ∨ s.campaign.callbackPort ≠ some p) :
    attachmentAfter p a s = s.onPort p fun c => { c with
      attachment := if c.queue.any Order.registers then c.attachment else a } := by
  unfold attachmentAfter
  split
  next hq => exact (State.onPort_id (by simp [hq])).symm
  next hq =>
    rw [setAttachment_eq h]
    exact State.onPort_congr (by simp [hq])

/-! ## Sending (06 R119) -/

/-- A WAKE of the port's own; the attachment goes unless an order that changes it is queued (06 R121). -/
theorem sendWake_eq {reason : WakeReason} (h : s.campaign.callbackPort ≠ some p) :
    sendWake p reason s = s.onPort p fun c => { c with
      power := .waking
      inFlight := some ⟨⟨.wake reason, .port⟩, 20⟩
      attachment := if c.queue.any Order.registers then c.attachment else .none } := by
  have hsent : sendWake p reason s = attachmentAfter p .none
      ((s.onPort p fun c => { c with inFlight := some ⟨⟨.wake reason, .port⟩, 20⟩ }).onPort p fun c =>
        { c with power := .waking }) := rfl
  rw [hsent, attachmentAfter_eq (.inr (by exact h)), State.onPort_onPort, State.onPort_onPort]

/-- A SLEEP on a port with no order queued. -/
theorem sendSleep_eq {who : Submitter} (h : s.campaign.callbackPort ≠ some p) (hq : (s.port p).queue = []) :
    sendOrder p ⟨.sleep, who⟩ s = s.onPort p fun c => { c with
      power := .sleeping, inFlight := some ⟨⟨.sleep, who⟩, 5⟩, attachment := .none } := by
  have hsent : sendOrder p ⟨.sleep, who⟩ s = attachmentAfter p .none
      ((s.onPort p fun c => { c with inFlight := some ⟨⟨.sleep, who⟩, 5⟩ }).onPort p fun c =>
        { c with power := .sleeping }) := rfl
  rw [hsent, attachmentAfter_eq (.inr (by exact h)), State.onPort_onPort, State.onPort_onPort]
  exact State.onPort_congr (by simp [hq])

/-- The kinds that change no state when they are sent. -/
def OrderKind.plain : OrderKind → Bool
  | .scan | .attach .. | .detach | .sendData _ => true
  | .wake _ | .sleep | .dial _ | .answer | .hangup | .refuse => false

theorem sendOrder_plain (h : o.kind.plain = true) :
    sendOrder p o s = s.onPort p fun c => { c with inFlight := some ⟨o, orderTimeout o.kind⟩ } := by
  obtain ⟨kind, who⟩ := o
  cases kind <;> first | rfl | cases h

/-- The call state that an order about a call gives its port when it is sent. -/
def OrderKind.callState? : OrderKind → Option CallState
  | .dial _ => some .dialing
  | .answer => some .answering
  | .hangup | .refuse => some .clearing
  | .wake _ | .sleep | .scan | .attach .. | .detach | .sendData _ => none

theorem sendOrder_call {new : CallState} (h : o.kind.callState? = some new) :
    sendOrder p o s = setCall p new (s.onPort p fun c => { c with inFlight := some ⟨o, orderTimeout o.kind⟩ }) := by
  obtain ⟨kind, who⟩ := o
  cases kind <;> first | cases h; rfl | cases h

theorem sendNext_of_empty (h : (s.port p).queue = []) : sendNext p s = s := by
  unfold sendNext
  rw [h]
  split <;> rfl

theorem sendNext_of_busy (h : (s.port p).power ≠ .on ∨ (s.port p).inFlight ≠ none) : sendNext p s = s := by
  unfold sendNext
  rw [if_neg (by tauto)]

theorem sendNext_cons {rest : List Order} (hpower : (s.port p).power = .on) (hflight : (s.port p).inFlight = none)
    (hq : (s.port p).queue = o :: rest) :
    sendNext p s = sendOrder p o (s.onPort p fun c => { c with queue := rest }) := by
  unfold sendNext
  rw [if_pos ⟨hpower, hflight⟩, hq]

/-! ## Taking an order (06 R116 to R118) -/

theorem answerFor_accepted (husable : (s.port p).power.usable = true) (hhalt : s.supply.halt = false)
    (hroom : (s.port p).queue.length < 4 ∨ o.atHead = true) : answerFor p o s = .accepted := by
  unfold answerFor
  rw [if_neg (by simp [husable, hhalt]), if_pos (by simpa using hroom)]

theorem answerFor_unavailable (h : (s.port p).power.usable = false ∨ s.supply.halt = true) :
    answerFor p o s = .unavailable := by
  unfold answerFor
  rw [if_pos (by rcases h with h | h <;> simp [h])]

theorem answerFor_queueFull (husable : (s.port p).power.usable = true) (hhalt : s.supply.halt = false)
    (hfull : 4 ≤ (s.port p).queue.length) (htail : o.atHead = false) : answerFor p o s = .queueFull := by
  unfold answerFor
  rw [if_neg (by simp [husable, hhalt]), if_neg (by simp [htail]; omega)]

@[simp] theorem joinQueue_nil : joinQueue o [] = [o] := by simp [joinQueue]

theorem joinQueue_tail {q : List Order} (h : o.atHead = false) : joinQueue o q = q ++ [o] := by simp [joinQueue, h]

theorem joinQueue_head {heads rest : List Order} (h : o.atHead = true) (hheads : ∀ x ∈ heads, x.atHead = true)
    (hrest : ∀ x ∈ rest, x.atHead = false) : joinQueue o (heads ++ rest) = heads ++ o :: rest := by
  have hstop : rest.takeWhile Order.atHead = [] ∧ rest.dropWhile Order.atHead = rest := by
    cases rest with
    | nil => simp
    | cons x rest => simp [hrest x (by simp)]
  rw [joinQueue, if_pos h, List.takeWhile_append_of_pos hheads, List.dropWhile_append_of_pos hheads, hstop.1, hstop.2,
    List.append_nil]

/-- The port can neither send at once nor is it OFF: what it accepts is queued. -/
def PortContext.queues (c : PortContext) : Prop :=
  c.power = .waking ∨ c.power = .sleeping ∨ (c.power = .on ∧ (c.inFlight ≠ none ∨ c.queue ≠ []))

theorem PortContext.queues.usable {c : PortContext} (h : c.queues) : c.power.usable = true := by
  rcases h with h | h | ⟨h, -⟩ <;> simp [h, Power.usable]

theorem placeOrder_queues (h : (s.port p).queues) :
    placeOrder p o s = s.onPort p fun c => { c with
      attachment := o.attachmentOn c.attachment, queue := joinQueue o c.queue } := by
  unfold placeOrder
  dsimp only
  rw [registering_eq, State.onPort_onPort]
  split
  next hdirect =>
    rw [Bool.and_eq_true, Option.isNone_iff_eq_none, List.isEmpty_iff] at hdirect
    refine sendNext_of_busy (.inl ?_)
    rw [State.onPort_port_self]
    rcases h with h | h | ⟨-, h⟩
    · simp [h]
    · simp [h]
    · simp [hdirect] at h
  next => rfl

/-- A busy port with room queues an accepted order. -/
theorem acceptOrder_queues (h : (s.port p).queues) (hroom : (s.port p).queue.length < 4) :
    acceptOrder p o s = s.onPort p fun c => { c with
      attachment := o.attachmentOn c.attachment, queue := joinQueue o c.queue } := by
  unfold acceptOrder
  rw [if_neg (by rcases h with h | h | ⟨h, -⟩ <;> simp [h]), if_pos hroom, placeOrder_queues h]

/-- A free port sends an accepted order at once. -/
theorem acceptOrder_free (hpower : (s.port p).power = .on) (hflight : (s.port p).inFlight = none)
    (hq : (s.port p).queue = []) :
    acceptOrder p o s = sendOrder p o (s.onPort p fun c => { c with attachment := o.attachmentOn c.attachment }) := by
  unfold acceptOrder placeOrder
  rw [if_neg (by simp [hpower]), if_pos (by simp [hq])]
  dsimp only
  rw [if_pos (by simp [hflight, hq]), registering_eq, State.onPort_onPort,
    sendNext_cons (o := o) (rest := []) (by simp [hpower]) (by simp [hflight]) (by simp [hq]), State.onPort_onPort]
  congr 1
  have hq' : (s.ports.get p).queue = [] := hq
  simp only [State.onPort, ← hq']

/-- An OFF port sends a WAKE ahead of an accepted order (06 R117). -/
theorem acceptOrder_off (hpower : (s.port p).power = .off) (hq : (s.port p).queue = [])
    (hcallback : s.campaign.callbackPort ≠ some p) :
    acceptOrder p o s = s.onPort p fun c => { c with
      power := .waking
      inFlight := some ⟨⟨.wake .demand, .port⟩, 20⟩
      attachment := o.attachmentOn .none
      queue := [o] } := by
  have hq' : (s.ports.get p).queue = [] := hq
  unfold acceptOrder
  rw [if_pos hpower, sendWake_eq hcallback, placeOrder_queues (.inl (by simp)), State.onPort_onPort]
  simp [State.onPort, hq']

end Sys2Proof.Machine
end

section
/-! Orders submitted together: the SCAN of a survey, the orders that bring a port to a network (03 R60, 04 R86), the
HANGUP that ends the call of a try (03 R63, R73). -/

namespace Sys2Proof.Machine

variable {s t : State} {p : Port} {o : Order}

/-! ## A SCAN -/

/-- A port that takes a SCAN has the context `after` then (06 R116, R117). -/
def ScanTaken (s : State) (p : Port) (scan : Order) (after : PortContext) : Prop :=
  ((s.port p).power = .on ∧ (s.port p).inFlight = none ∧ (s.port p).queue = []
      ∧ after = { s.port p with inFlight := some ⟨scan, 60⟩ })
    ∨ ((s.port p).power = .off ∧ (s.port p).queue = [] ∧ s.campaign.callbackPort ≠ some p
      ∧ after = { s.port p with
          power := .waking
          attachment := .none
          inFlight := some ⟨⟨.wake .demand, .port⟩, 20⟩
          queue := [scan] })
    ∨ ((s.port p).queues ∧ (s.port p).queue.length < 4
      ∧ after = { s.port p with queue := (s.port p).queue ++ [scan] })

theorem ScanTaken.accepted {who : Submitter} {after : PortContext} (h : ScanTaken s p ⟨.scan, who⟩ after)
    (hhalt : s.supply.halt = false) : answerFor p ⟨.scan, who⟩ s = .accepted := by
  rcases h with ⟨hpower, -, hq, -⟩ | ⟨hpower, hq, -, -⟩ | ⟨hbusy, hroom, -⟩
  · exact answerFor_accepted (by simp [hpower, Power.usable]) hhalt (by simp [hq])
  · exact answerFor_accepted (by simp [hpower, Power.usable]) hhalt (by simp [hq])
  · exact answerFor_accepted hbusy.usable hhalt (.inl hroom)

theorem ScanTaken.acceptOrder_eq {who : Submitter} {after : PortContext} (h : ScanTaken s p ⟨.scan, who⟩ after) :
    acceptOrder p ⟨.scan, who⟩ s = s.onPort p fun _ => after := by
  rcases h with ⟨hpower, hflight, hq, rfl⟩ | ⟨hpower, hq, hcallback, rfl⟩ | ⟨hbusy, hroom, rfl⟩
  · rw [acceptOrder_free hpower hflight hq, sendOrder_plain rfl, State.onPort_onPort]
    rfl
  · rw [acceptOrder_off hpower hq hcallback]
    rfl
  · rw [acceptOrder_queues hbusy hroom]
    exact State.onPort_congr (by simp [joinQueue_tail (o := ⟨.scan, who⟩) rfl, Order.attachmentOn])

/-! ## Orders in turn -/

/-- The attachment once the orders are accepted in turn. -/
def attachmentOnAll (orders : List Order) (a : Attachment) : Attachment :=
  orders.foldl (fun b o => o.attachmentOn b) a

/-- A busy port with room for all of them queues them in turn. -/
theorem submitAll_queues {orders : List Order} (hbusy : (s.port p).queues) (hhalt : s.supply.halt = false)
    (htail : ∀ o ∈ orders, o.atHead = false) (hroom : (s.port p).queue.length + orders.length ≤ 4) :
    submitAll p orders s = (true, s.onPort p fun c => { c with
      attachment := attachmentOnAll orders c.attachment, queue := c.queue ++ orders }) := by
  induction orders generalizing s with
  | nil =>
    rw [State.onPort_id (by simp [attachmentOnAll])]
    rfl
  | cons o orders ih =>
    rw [List.length_cons] at hroom
    have hfits : (s.port p).queue.length < 4 := by omega
    rw [submitAll, if_pos (answerFor_accepted hbusy.usable hhalt (.inl hfits)), acceptOrder_queues hbusy hfits,
      ih, State.onPort_onPort]
    · refine congrArg (Prod.mk true) (State.onPort_congr ?_)
      simp [attachmentOnAll, joinQueue_tail (htail o (by simp))]
    · rw [State.onPort_port_self]
      rcases hbusy with h | h | ⟨h, -⟩
      · exact .inl h
      · exact .inr (.inl h)
      · exact .inr (.inr ⟨h, .inr (by simp [joinQueue_tail (htail o (by simp))])⟩)
    · exact hhalt
    · exact fun x hx => htail x (List.mem_cons_of_mem o hx)
    · rw [State.onPort_port_self]
      simp only [length_joinQueue]
      omega

/-- The port sends the first order or queues it, and queues the others: its context is `after` then. -/
def OrdersTaken (s : State) (p : Port) (first : Order) (rest : List Order) (after : PortContext) : Prop :=
  ((s.port p).power = .on ∧ (s.port p).inFlight = none ∧ (s.port p).queue = [] ∧ rest.length ≤ 4
      ∧ after = { s.port p with
        attachment := attachmentOnAll (first :: rest) (s.port p).attachment
        inFlight := some ⟨first, orderTimeout first.kind⟩
        queue := rest })
    ∨ ((s.port p).power = .off ∧ (s.port p).queue = [] ∧ s.campaign.callbackPort ≠ some p ∧ rest.length < 4
      ∧ after = { s.port p with
          power := .waking
          attachment := attachmentOnAll (first :: rest) .none
          inFlight := some ⟨⟨.wake .demand, .port⟩, 20⟩
          queue := first :: rest })
    ∨ ((s.port p).queues ∧ (s.port p).queue.length + rest.length < 4
      ∧ after = { s.port p with
          attachment := attachmentOnAll (first :: rest) (s.port p).attachment
          queue := (s.port p).queue ++ first :: rest })

theorem OrdersTaken.submitAll_eq {first : Order} {rest : List Order} {after : PortContext}
    (h : OrdersTaken s p first rest after) (hhalt : s.supply.halt = false) (hplain : first.kind.plain = true)
    (htail : ∀ o ∈ first :: rest, o.atHead = false) :
    submitAll p (first :: rest) s = (true, s.onPort p fun _ => after) := by
  have hrest : ∀ o ∈ rest, o.atHead = false := fun o ho => htail o (List.mem_cons_of_mem _ ho)
  rcases h with ⟨hpower, hflight, hq, hroom, rfl⟩ | ⟨hpower, hq, hcallback, hroom, rfl⟩ | ⟨hbusy, hroom, rfl⟩
  · rw [submitAll, if_pos (answerFor_accepted (by simp [hpower, Power.usable]) hhalt (by simp [hq])),
      acceptOrder_free hpower hflight hq, sendOrder_plain hplain, State.onPort_onPort,
      submitAll_queues (htail := hrest), State.onPort_onPort]
    · exact congrArg (Prod.mk true) (State.onPort_congr (by simp [attachmentOnAll, hq]))
    · simp [PortContext.queues, hpower]
    · exact hhalt
    · simpa [hq] using hroom
  · rw [submitAll, if_pos (answerFor_accepted (by simp [hpower, Power.usable]) hhalt (by simp [hq])),
      acceptOrder_off hpower hq hcallback, submitAll_queues (htail := hrest), State.onPort_onPort]
    · exact congrArg (Prod.mk true) (State.onPort_congr (by simp [attachmentOnAll]))
    · simp [PortContext.queues]
    · exact hhalt
    · rw [State.onPort_port_self, List.length_singleton]
      omega
  · rw [submitAll_queues hbusy hhalt htail (by simp; omega)]
    rfl

/-! ## An ATTACH taken over (03 R60) -/

theorem Order.attaches_iff {slot : TableSlot} {net : NetworkId} :
    o.attaches slot net = true ↔ o.kind = .attach slot net := by simp [Order.attaches]

theorem retagQueue_of_none {slot : TableSlot} {net : NetworkId} {purpose : Purpose} {queue : List Order}
    (h : ∀ o ∈ queue, o.kind ≠ .attach slot net) : retagQueue slot net purpose queue = none := by
  induction queue with
  | nil => rfl
  | cons o rest ih =>
    have ho : o.attaches slot net = false := by
      rw [← Bool.not_eq_true, Order.attaches_iff]
      exact h o (by simp)
    simp [retagQueue, ih fun x hx => h x (List.mem_cons_of_mem o hx), ho]

/-- The newest ATTACH of the network in the queue is the one taken over. -/
theorem retagQueue_newest {slot : TableSlot} {net : NetworkId} {purpose : Purpose} {ahead behind : List Order}
    {who : Submitter} (h : ∀ o ∈ behind, o.kind ≠ .attach slot net) :
    retagQueue slot net purpose (ahead ++ ⟨.attach slot net, who⟩ :: behind) =
      some (ahead ++ ⟨.attach slot net, .campaign purpose⟩ :: behind) := by
  induction ahead with
  | nil =>
    have ho : (⟨.attach slot net, who⟩ : Order).attaches slot net = true := Order.attaches_iff.mpr rfl
    simp [retagQueue, retagQueue_of_none h, ho]
  | cons o ahead ih => simp [retagQueue, ih]

/-! ## Bringing a port to a network -/

theorem BroughtTo.congr {slot : TableSlot} {net : NetworkId} {purpose : Purpose} {after : PortContext}
    (h : BroughtTo s p slot net purpose after) (hport : t.port p = s.port p)
    (hhalt : t.supply.halt = s.supply.halt) (hcallback : t.campaign.callbackPort = s.campaign.callbackPort) :
    BroughtTo t p slot net purpose after := by
  unfold BroughtTo PortFree at *
  rw [hport, hhalt, hcallback]
  exact h

/-- What R60's table calls for brings the port to the context `after`. -/
theorem BroughtTo.taken {slot : TableSlot} {net : NetworkId} {purpose : Purpose} {after : PortContext}
    (h : BroughtTo s p slot net purpose after) :
    (approach (s.port p).attachment slot net = .wait
        ∧ adoptAttach p slot net purpose s = s.onPort p fun _ => after)
      ∨ ∃ kinds, approach (s.port p).attachment slot net = .submit kinds
        ∧ submitAll p (kinds.map fun k => ⟨k, .campaign purpose⟩) s = (true, s.onPort p fun _ => after) := by
  rcases h with ⟨hattaching, hadopt⟩ | ⟨hhalt, hcallback, first, timeout, rest, horders, hplaced⟩
  · refine .inl ⟨by simp [approach, hattaching], State.onPort_congr ?_⟩
    rcases hadopt with ⟨hnone, who, n, hflight, rfl⟩ | ⟨ahead, who, behind, hq, hbehind, rfl⟩
    · simp [retagQueue_of_none hnone, hflight, Order.attaches_iff]
    · simp [hq, retagQueue_newest hbehind]
  · have htaken : ∃ kinds, approach (s.port p).attachment slot net = .submit kinds
        ∧ kinds.map (fun k => (⟨k, .campaign purpose⟩ : Order)) = first :: rest
        ∧ first.kind.plain = true ∧ (∀ o ∈ first :: rest, o.atHead = false)
        ∧ timeout = orderTimeout first.kind ∧ rest.length ≤ 1
        ∧ ∀ a, attachmentOnAll (first :: rest) a = .attaching slot net := by
      rcases horders with ⟨hother, rfl, rfl, rfl⟩ | ⟨hnone, rfl, rfl, rfl⟩
      · refine ⟨[.detach, .attach slot net], ?_, rfl, rfl, by simp [Order.atHead], rfl, by simp, fun _ => rfl⟩
        rcases hother with ⟨other, ha, hne⟩ | ⟨i, other, ha, hne⟩
        · simp [approach, ha, hne]
        · simp only [approach, ha]
          rw [if_neg (by tauto)]
      · refine ⟨[.attach slot net], ?_, rfl, rfl, by simp [Order.atHead], rfl, by simp, fun _ => rfl⟩
        rcases hnone with ha | ha <;> simp [approach, ha]
    obtain ⟨kinds, happroach, hkinds, hplain, htail, rfl, hshort, hattachment⟩ := htaken
    refine .inr ⟨kinds, happroach, ?_⟩
    rw [hkinds]
    refine OrdersTaken.submitAll_eq ?_ hhalt hplain htail
    rcases hplaced with ⟨⟨hpower, hflight, hq, -⟩, rfl⟩ | ⟨hpower, hq, rfl⟩ | ⟨hbusy, hroom, rfl⟩
    · exact .inl ⟨hpower, hflight, hq, by omega, by rw [hattachment]⟩
    · exact .inr (.inl ⟨hpower, hq, hcallback, by omega, by rw [hattachment]⟩)
    · exact .inr (.inr ⟨hbusy, hroom, by rw [hattachment]⟩)

/-! ## A HANGUP at the head (06 R118) -/

theorem removeNewest_of_none {test : Order → Bool} {queue : List Order} (h : ∀ o ∈ queue, test o = false) :
    removeNewest test queue = none := by
  induction queue with
  | nil => rfl
  | cons o rest ih => simp [removeNewest, ih fun x hx => h x (List.mem_cons_of_mem o hx), h o (by simp)]

theorem removeNewest_last {test : Order → Bool} {front back : List Order} (ho : test o = true)
    (h : ∀ x ∈ back, test x = false) : removeNewest test (front ++ o :: back) = some (o, front ++ back) := by
  induction front with
  | nil => simp [removeNewest, removeNewest_of_none h, ho]
  | cons x front ih => simp [removeNewest, ih]

/-- A SCAN of the host or of start-up is what a full queue gives up first (06 R118). -/
theorem makeRoom_scan {front back : List Order} (hq : (s.port p).queue = front ++ o :: back) (hkind : o.kind = .scan)
    (hwho : o.submitter = .host ∨ o.submitter = .start) (hback : ∀ x ∈ back, x.ofCampaign = true) :
    makeRoom p s = s.onPort p fun c => { c with queue := front ++ back } := by
  have hforeign : o.ofCampaign = false := by rcases hwho with h | h <;> simp [Order.ofCampaign, h]
  have hchosen : chooseRemoval s.campaign (s.port p).call (s.port p).queue = some (o, front ++ back) := by
    rw [chooseRemoval, hq, removeNewest_last (by simp [hforeign]) (by simpa using hback)]
  have htold : ∀ u : State, tellDropped p [o] u = u := by
    intro u
    rcases hwho with h | h <;> simp [tellDropped, h]
  have hregisters : o.registers = false := by simp [Order.registers, hkind]
  simp [makeRoom, hchosen, htold, hregisters]

theorem HungUp.congr {id : Nat} {after : PortContext} (h : HungUp s p id after) (hport : t.port p = s.port p)
    (hhalt : t.supply.halt = s.supply.halt) : HungUp t p id after := by
  unfold HungUp PortFree at *
  rw [hport, hhalt]
  exact h

/-- The HANGUP is accepted; the port comes to the context `after`, and the route stays or goes. -/
theorem HungUp.submit_eq {id : Nat} {after : PortContext} (h : HungUp s p id after) :
    ∃ route, (route = s.campaign.route ∨ route = none)
      ∧ submit p ⟨.hangup, .campaign (.call id)⟩ s =
        (s.onPort p fun _ => after).onCampaign fun c => { c with route := route } := by
  have hhead : (⟨.hangup, .campaign (.call id)⟩ : Order).atHead = true := rfl
  rcases h with ⟨⟨hpower, hflight, hq, hhalt⟩, hcall, rfl⟩ | ⟨hpower, hhalt, hflight, kept, heads, rest, hkept, rfl,
    hheads, hrest, rfl⟩
  · refine ⟨routeAfter p .clearing s.campaign.route, ?_, ?_⟩
    · unfold routeAfter
      split <;> simp
    · rw [submit, if_pos (answerFor_accepted (by simp [hpower, Power.usable]) hhalt (.inr hhead)),
        acceptOrder_free hpower hflight hq, sendOrder_call (new := .clearing) rfl, State.onPort_onPort,
        setCall_eq (.inl (by simpa using hcall)), State.onPort_onPort]
      rfl
  · refine ⟨s.campaign.route, .inl rfl, ?_⟩
    have hbusy : (s.port p).queues := .inr (.inr ⟨hpower, .inl hflight⟩)
    rw [submit, if_pos (answerFor_accepted hbusy.usable hhalt (.inr hhead)), State.onCampaign_id (by rfl)]
    rcases hkept with ⟨hroom, hq⟩ | ⟨hfull, front, o, back, hq, hkind, hwho, hback, hjoined⟩
    · rw [acceptOrder_queues hbusy hroom]
      exact State.onPort_congr (by simp [← hq, joinQueue_head hhead hheads hrest, Order.attachmentOn])
    · rw [acceptOrder, if_neg (by simp [hpower]), if_neg (by omega), makeRoom_scan hq hkind hwho hback,
        placeOrder_queues (by simpa [PortContext.queues, hpower] using .inl hflight), State.onPort_onPort]
      exact State.onPort_congr (by simp [← hjoined, joinQueue_head hhead hheads hrest, Order.attachmentOn])

end Sys2Proof.Machine
end

section
/-! The coordinator's own due events that end in one block or in one order: an aged entry, the timers of the
campaign, the sleep and wakes of the ports, compare matches, conversions. -/

namespace Sys2Proof.Machine

variable {s : State} {p : Port}

/-! ## Due events -/

theorem takeIfDue_of_due {e : DueEvent} (h : isDue s e = true) : takeIfDue e s = takeDue s e := if_pos h

theorem takeIfDue_of_not_due {e : DueEvent} (h : isDue s e = false) : takeIfDue e s = some s := by
  simp [takeIfDue, h]

/-- The set of holds is empty where no kind is in it. -/
theorem Holds.any_eq_false_iff {h : Holds} : h.any = false ↔ h = Holds.empty := by
  obtain ⟨a, b, c, d⟩ := h
  cases a <;> cases b <;> cases c <;> cases d <;> decide

theorem Entry.aged_iff {e : Entry} : e.aged = true ↔ e.state = .lost ∧ e.holds = Holds.empty ∧ 3600 < e.age := by
  simp [Entry.aged, Holds.any_eq_false_iff, and_assoc]

/-- Settles O8: the row's own test of the entry is R6's, and the note is there by hypothesis. -/
theorem agedEntryFreed : Obligations.AgedEntryFreed := by
  unfold Obligations.AgedEntryFreed
  intro s slot e he hnoted
  have hdue : isDue s (.entryAged slot) = e.aged := by simp [isDue, hnoted, he]
  constructor
  · intro hlost hheld hold
    have haged : e.aged = true := Entry.aged_iff.mpr ⟨hlost, hheld, hold⟩
    simp only [exec, execEntryAged, takeIfDue_of_due (hdue.trans haged)]
    rfl
  · intro hkept
    have haged : e.aged = false := by
      rw [← Bool.not_eq_true, Entry.aged_iff]
      rintro ⟨hlost, hheld, hold⟩
      rcases hkept with h | h | h
      · simp [hlost] at h
      · exact h hheld
      · omega
    simp only [exec, execEntryAged, takeIfDue_of_not_due (hdue.trans haged), outcomeOf_some]

/-! ## Timers of the campaign -/

/-- The release of a try whose port takes the HANGUP: RELEASE, and the route stays or goes (03 R63, R73). -/
theorem releaseTry_eq {reason : ReleaseReason} {x : CurrentTry} {after : PortContext}
    (hx : s.campaign.attempt = some x) (hport : x.port = some p) (hup : HungUp s p x.id after) :
    ∃ route, (route = s.campaign.route ∨ route = none) ∧ releaseTry reason s =
      { s with
        campaign := { s.campaign with
          state := .release
          ringTimer := none
          attempt := some { x with stage := .releasing, release := some reason }
          route := route }
        ports := s.ports.put p after } := by
  obtain ⟨route, hroute, hsubmit⟩ := HungUp.submit_eq (s := (onTry (fun t =>
    { t with stage := .releasing, release := some reason }) s).onCampaign fun c =>
      { c with state := .release, ringTimer := none }) (hup.congr rfl rfl)
  refine ⟨route, hroute, ?_⟩
  simp only [releaseTry, hx, hport, hsubmit]
  simp [State.onCampaign, onTry, hx, hport, State.onPort]

/-- Settles O10. -/
theorem ringTimesOut : Obligations.RingTimesOut := by
  unfold Obligations.RingTimesOut
  intro s x p hring hdue hx hport hroute hfree hcall
  have hup : HungUp s p x.id { s.port p with
      call := .clearing, silenceTimer := none, inFlight := some ⟨⟨.hangup, .campaign (.call x.id)⟩, 10⟩ } :=
    .inl ⟨hfree, by simp [hcall], rfl⟩
  obtain ⟨route, hr, hrelease⟩ := releaseTry_eq (reason := .ringTimeout) hx hport hup
  have hnone : route = none := by rcases hr with h | h <;> simp [h, hroute]
  subst hnone
  simp only [exec, execRingTimeout, takeIfDue_of_due (e := .ringTimeout) (s := s) (by simp [isDue, hdue]), takeDue,
    ringExpires, hrelease, outcomeOf_some]
  rw [reportChange_moved (stateKey_ne_of_state (by simp [hring])) (by simp)]
  simp [hroute]

/-- The summary a campaign ends with (05 R110). -/
def State.summary (s : State) (outcome : CampaignOutcome) : Summary where
  origin := s.campaign.origin
  outcome := outcome
  total := s.log.counter
  recoveries := s.campaign.recoveries
  planFault := s.campaign.planFault
  seconds := s.campaign.seconds
  presses := s.campaign.presses
  truncated := s.log.truncated

/-- The end of a campaign with no standby (03 R82, 05 R111). -/
theorem endCampaign_eq {outcome : CampaignOutcome} (h : s.campaign.standby = none) :
    endCampaign outcome s =
      raise (.state .idle s.campaign.phase s.campaign.origin none none (some outcome))
        (raise (.summary (s.summary outcome))
          { s with
            campaign := Campaign.inIdle
            log := { s.log with summary := some (s.summary outcome) }
            table := { s.table with
              slots := s.table.slots.map fun o => o.map fun e => { e with holds := Holds.empty } }
            supply := { s.supply with idleNotices := s.supply.idleNotices + 1 } }) := by
  simp only [endCampaign, closeCampaign, clearStandby, h, writeSummary, toIdle, raise_onCampaign, raise_onSupply]
  simp only [raise_frame]
  rfl

/-- Settles O11. -/
theorem windowExpires_settled : Obligations.WindowExpires := by
  unfold Obligations.WindowExpires
  intro s _ hdue hstandby
  refine ⟨s.summary .completed, rfl, ?_⟩
  simp only [exec, execCallbackWindowExpiry,
    takeIfDue_of_due (e := .callbackWindowExpiry) (s := s) (by simp [isDue, hdue]), takeDue, windowExpires,
    endCampaign_eq hstandby, outcomeOf_some]

/-! ## Notices -/

theorem moduleNotice_some {n : Notice} : moduleNotice p (some n) s = takeNotice p n (moduleIdle p s) := rfl

@[simp] theorem moduleIdle_port_self : (moduleIdle p s).port p = { s.port p with rx := .hunting } := by
  simp [moduleIdle]

@[simp] theorem moduleIdle_blocks : (moduleIdle p s).campaign = s.campaign ∧ (moduleIdle p s).supply = s.supply
    ∧ (moduleIdle p s).table = s.table ∧ (moduleIdle p s).cfg = s.cfg ∧ (moduleIdle p s).survey = s.survey
    ∧ (moduleIdle p s).log = s.log ∧ (moduleIdle p s).serial = s.serial := by
  simp [moduleIdle]

theorem takeNotice_completes {n : Notice} {f : InFlight} (hpower : (s.port p).power.listens = true)
    (hflight : (s.port p).inFlight = some f) (hc : completes f.order.kind n = true) :
    takeNotice p n s = completeOrder p f.order n s := by
  simp [takeNotice, hpower, hflight, hc]

theorem takeNotice_unasked {n : Notice} (hpower : (s.port p).power.listens = true)
    (h : ∀ f, (s.port p).inFlight = some f → completes f.order.kind n = false) :
    takeNotice p n s = unaskedNotice p n s := by
  unfold takeNotice
  rw [if_pos hpower]
  cases hf : (s.port p).inFlight with
  | none => rfl
  | some f => simp [h f hf]

/-- Nothing follows on a port that has nothing queued or cannot send. -/
theorem sendFollowing_of_rest (h : (s.port p).queue = [] ∨ (s.port p).power ≠ .on ∨ (s.port p).inFlight ≠ none) :
    sendFollowing p s = s := by
  have hnext : sendNext p s = s := by
    rcases h with h | h
    · exact sendNext_of_empty h
    · exact sendNext_of_busy h
  rw [sendFollowing, hnext, reportChange_same rfl]

/-! ## Sleep and wakes of the ports (06 R130, R133 to R135) -/

/-- The context of a port whose SLEEP has ended (06 R133). -/
def PortContext.sleepEnded (c : PortContext) : PortContext :=
  if c.queue.isEmpty then { c with power := .off, inFlight := none }
  else { c with
    power := .waking
    inFlight := some ⟨⟨.wake .demand, .port⟩, 20⟩
    attachment := if c.queue.any Order.registers then c.attachment else .none }

theorem sleepEnds_eq (h : s.campaign.callbackPort ≠ some p) : sleepEnds p s = s.onPort p PortContext.sleepEnded := by
  unfold sleepEnds
  dsimp only
  split
  next hempty =>
    rw [State.onPort_onPort]
    refine State.onPort_congr ?_
    rw [State.onPort_port_self] at hempty
    simp only [PortContext.sleepEnded, hempty, if_true]
  next hqueued =>
    rw [sendWake_eq (by exact h), State.onPort_onPort]
    refine State.onPort_congr ?_
    rw [State.onPort_port_self] at hqueued
    simp [PortContext.sleepEnded, hqueued]

/-- Settles O13. -/
theorem sleepEnds_settled : Obligations.SleepEnds := by
  unfold Obligations.SleepEnds
  intro s p who n hpower hflight hcallback
  refine ⟨(s.port p).sleepEnded, fun hq => ?_, fun hq => ?_, ?_, fun hn => ?_⟩
  · simp [PortContext.sleepEnded, hq]
  · simp [PortContext.sleepEnded, hq]
  · have hlistens : ((moduleIdle p s).port p).power.listens = true := by simp [hpower, Power.listens]
    have hinflight : ((moduleIdle p s).port p).inFlight = some ⟨⟨.sleep, who⟩, n⟩ := by simp [hflight]
    have hended : sleepEnds p ((moduleIdle p s).onPort p fun c => { c with inFlight := none }) =
        s.onPort p fun c => { c.sleepEnded with rx := .hunting } := by
      rw [sleepEnds_eq (by simpa using hcallback), State.onPort_onPort, moduleIdle, State.onPort_onPort]
      refine State.onPort_congr ?_
      unfold PortContext.sleepEnded
      split <;> simp_all
    have hrest : sendFollowing p (s.onPort p fun c => { c.sleepEnded with rx := .hunting }) =
        s.onPort p fun c => { c.sleepEnded with rx := .hunting } := by
      refine sendFollowing_of_rest ?_
      rw [State.onPort_port_self]
      unfold PortContext.sleepEnded
      split <;> simp
    simp only [exec, execSleepDone, moduleNotice_some, takeNotice_completes (n := .sleepDone) hlistens hinflight rfl, completeOrder,
      completion, hended, Option.map_some, hrest, outcomeOf_some]
    rfl
  · subst hn
    simp only [exec, execSleepTimeout, takeIfDue_of_due (e := .sleepTimeout p) (s := s)
      (by simp [isDue, timedOut, hflight, OrderKind.isSleep]), takeDue, sleepTimesOut, sleepEnds_eq hcallback,
      raisePort, outcomeOf_some, State.onPort_port_self]
    rfl

/-- Settles O14. -/
theorem portsActAtTick : Obligations.PortsActAtTick := by
  unfold Obligations.PortsActAtTick
  intro s p hnoted hcallback hq
  have hq' : (s.ports.get p).queue = [] := hq
  refine ⟨fun hpower htimer hmode hhalt => ?_, fun hpower hflight hcall hunused hpolicy => ?_,
    fun hpower hmode hpolicy hhalt => ?_⟩
  · have hdue : isDue s (.portRestart p) = true := by
      rcases hmode with hm | hm <;> simp [isDue, restartTest, hnoted, hpower, htimer, hm, hhalt]
    simp only [exec, execPortRestart, takeIfDue_of_due hdue, takeDue, restartPort, outcomeOf_some]
    rw [sendWake_eq (by exact hcallback), State.onPort_onPort]
    simp [State.onPort, State.port, hq']
  · have hdue : isDue s (.policySleep p) = true := by
      rcases hpolicy with hm | hm <;>
        simp [isDue, sleepTest, hnoted, hpower, hflight, hq, hcall, hunused, effectivePolicy, hm]
    simp only [exec, execPolicySleep, takeIfDue_of_due hdue, takeDue, policySleep, outcomeOf_some]
    rw [sendSleep_eq (by exact hcallback) (by simp [hq]), State.onPort_onPort]
    rfl
  · have hdue : isDue s (.keepWarmWake p) = true := by
      simp [isDue, wakeTest, hnoted, hpower, effectivePolicy, hmode, hpolicy, hhalt]
    simp only [exec, execKeepWarmWake, takeIfDue_of_due hdue, takeDue, keepWarmWake, outcomeOf_some]
    rw [sendWake_eq (by exact hcallback), State.onPort_onPort]
    simp [State.onPort, State.port, hq']

/-! ## Compare matches (08 R156) -/

theorem skipReason_campaign (husable : (s.port p).power.usable = true)
    (hmode : s.supply.mode = .normal ∨ s.supply.mode = .low) : skipReason s p =
      if s.campaign.active && (s.campaign.callPort == some p || isStandbyPort s p
        || s.campaign.attempt.any fun t => t.port == some p) then some .campaign else none := by
  unfold skipReason
  rw [if_neg (by rintro h; simp [h, Power.usable] at husable),
    if_neg (by rintro (h | h) <;> simp [h, Power.usable] at husable), if_neg (by tauto)]

/-- The state a match's row works on: its due mark is gone. -/
def matchTaken (p : Port) (s : State) : State := s.onSurvey fun v => { v with matchDue := v.matchDue.put p false }

theorem compareMatches_skipped {reason : SkipReason} (h : skipReason s p = some reason) :
    compareMatches p s = recordMatch p (.skipped reason) (matchTaken p s) := by
  have h' : skipReason (matchTaken p s) p = some reason := h
  simp only [matchTaken] at h'
  simp only [compareMatches, h', matchTaken]

theorem compareMatches_submitted (h : skipReason s p = none) : compareMatches p s =
    if answerFor p ⟨.scan, .survey s.survey.periodEnds⟩ s = .accepted then
      recordMatch p .submitted (acceptOrder p ⟨.scan, .survey s.survey.periodEnds⟩ (matchTaken p s))
    else recordMatch p (.skipped .queueFull) (matchTaken p s) := by
  have h' : skipReason (matchTaken p s) p = none := h
  simp only [matchTaken] at h'
  simp only [compareMatches, h']
  rfl

/-- Settles O16. -/
theorem compareMatches_settled : Obligations.CompareMatches := by
  unfold Obligations.CompareMatches
  intro s p hdue
  have htaken : exec (.compareMatch p) s = .next (compareMatches p s) := by
    simp only [exec, execCompareMatch, takeIfDue_of_due (e := .compareMatch p) (s := s) (by simpa [isDue] using hdue),
      takeDue, outcomeOf_some]
  rw [htaken]
  constructor
  · intro r hr
    rcases hr with ⟨hpower, rfl⟩ | ⟨hpower, rfl⟩ | ⟨husable, hmode, rfl⟩ | ⟨husable, hmode, hactive, huse, rfl⟩
      | ⟨hpower, hmode, hidle, hfull, rfl⟩
    · rw [compareMatches_skipped (reason := .disabled) (by simp [skipReason, hpower])]
      rfl
    · rw [compareMatches_skipped (reason := .unavailable) (by rcases hpower with h | h <;> simp [skipReason, h])]
      rfl
    · have hreason : skipReason s p = some .supply := by
        unfold skipReason
        rw [if_neg (by rintro h; simp [h, Power.usable] at husable),
          if_neg (by rintro (h | h) <;> simp [h, Power.usable] at husable),
          if_pos (by rcases hmode with h | h <;> simp [h])]
      rw [compareMatches_skipped hreason]
      rfl
    · have hreason : skipReason s p = some .campaign := by
        have hact : s.campaign.active = true := bne_iff_ne.mpr hactive
        rw [skipReason_campaign husable hmode, if_pos]
        rcases huse with h | ⟨b, hb, h⟩ | ⟨x, hx, h⟩
        · simp [hact, h]
        · simp [hact, isStandbyPort, hb, h]
        · simp [hact, hx, h]
      rw [compareMatches_skipped hreason]
      rfl
    · have husable : (s.port p).power.usable = true := by rcases hpower with h | h | h <;> simp [h, Power.usable]
      have hgoes : skipReason s p = none := by
        rw [skipReason_campaign husable hmode]
        simp [Campaign.active, hidle]
      have hrefused : answerFor p ⟨.scan, .survey s.survey.periodEnds⟩ s ≠ .accepted := by
        cases hhalt : s.supply.halt with
        | false => simp [answerFor_queueFull (o := ⟨.scan, .survey s.survey.periodEnds⟩) husable hhalt hfull rfl]
        | true => simp [answerFor_unavailable (.inr hhalt)]
      rw [compareMatches_submitted hgoes, if_neg hrefused]
      rfl
  · rintro scan after rfl hmode hhalt hcampaign hplaced
    have htakes : ScanTaken s p ⟨.scan, .survey s.survey.periodEnds⟩ after := by
      rcases hplaced with ⟨⟨hpower, hflight, hq, -⟩, hafter⟩ | h | h
      · exact .inl ⟨hpower, hflight, hq, hafter⟩
      · exact .inr (.inl h)
      · exact .inr (.inr h)
    have husable := usable_of_accepted (htakes.accepted hhalt)
    have hgoes : skipReason s p = none := by
      rw [skipReason_campaign husable hmode, if_neg]
      rcases hcampaign with hidle | ⟨hcall, hstandby, htry⟩
      · simp [Campaign.active, hidle]
      · simp only [Bool.and_eq_true, Bool.or_eq_true, beq_iff_eq, isStandbyPort, Option.any_eq_true]
        rintro ⟨-, (h | ⟨b, hb, h⟩) | ⟨x, hx, h⟩⟩
        · exact hcall h
        · exact hstandby b hb (by simpa using h)
        · exact htry x hx (by simpa using h)
    rw [compareMatches_submitted hgoes, if_pos (htakes.accepted hhalt)]
    have hsent : acceptOrder p ⟨.scan, .survey s.survey.periodEnds⟩ (matchTaken p s) =
        (matchTaken p s).onPort p fun _ => after := ScanTaken.acceptOrder_eq (s := matchTaken p s) htakes
    rw [hsent]
    rfl

end Sys2Proof.Machine
end

section
/-! The host line's requests: every well-formed one is read back from its frame (10 section 10.7), a ready link
serves it in its own event, and its reply is all that the link gets; with it the requests that only read. -/

namespace Sys2Proof.Machine

variable {s : State}

/-! ## Reading back a request -/

theorem optWord_last (w : Option Word) : optWord (optWordBytes w) = some (w, []) := by
  simpa using optWord_bytes w []

theorem optByte_last (b : Option Byte) : optByte (optByteBytes b) = some (b, []) := by
  simpa using optByte_bytes b []

theorem parseTuning_tuningBytes (a : TuningArgs) : parseTuning (tuningBytes a) = some (.setTuning a) := by
  simp [parseTuning, tuningBytes, List.append_assoc, optWord_bytes, optByte_bytes, optByte_last]

theorem parseSupply_bytes (a : SupplyArgs) :
    parseSupply (optWordBytes a.warn ++ optWordBytes a.shed ++ optWordBytes a.cutoff) = some (.setSupply a) := by
  simp [parseSupply, List.append_assoc, optWord_bytes, optWord_last]

theorem parseSurvey_surveyBytes (a : SurveyArgs) : parseSurvey (surveyBytes a) = some (.setSurvey a) := by
  obtain ⟨period, compares, policies⟩ := a
  cases compares <;> cases policies <;>
    simp [parseSurvey, surveyBytes, List.append_assoc, optWord_bytes, wordBytes, byteSet]

theorem parseSteps_bytes (first : Byte) {records : List StepBytes} (h : records.length < 256) :
    parseSteps (first :: byteOf records.length :: records.flatMap stepBytesList) = some (.loadSteps first records) := by
  have htaken := takeSteps_bytes records []
  rw [List.append_nil] at htaken
  simp [parseSteps, byteOf_toNat _ h, htaken]

theorem parsePreferences_bytes {records : List PreferenceBytes} (h : records.length < 256) :
    parsePreferences (byteOf records.length :: records.flatMap preferenceBytesList) = some (.setPreferences records) := by
  have htaken := takePreferences_bytes records []
  rw [List.append_nil] at htaken
  simp [parsePreferences, byteOf_toNat _ h, htaken]

theorem parseDestination_bytes (number flag : Byte) {digits : List Byte} (h : digits.length < 256) :
    parseDestination (number :: (textBytes digits ++ [flag])) = some (.loadDestination number digits flag) := by
  simp [parseDestination, takeText_bytes digits [flag] h]

theorem parseBox_bytes {identity location : List Byte} (hi : identity.length < 256) (hl : location.length < 256) :
    parseBox (textBytes identity ++ textBytes location) = some (.setBoxRecord identity location) := by
  have htaken := takeText_bytes location [] hl
  rw [List.append_nil] at htaken
  simp [parseBox, takeText_bytes identity (textBytes location) hi, htaken]

/-- Every request that fits a frame is read back from its frame (10 R186). -/
theorem parseRequest_encodeRequest {r : Request} (h : r.wellFormed = true) :
    parseRequest (encodeRequest r) = .request r := by
  cases r with
  | setTuning a => simp [encodeRequest, parseRequest, parseTuning_tuningBytes, parsedOr]
  | setSupply a =>
    have hread := parseSupply_bytes a
    rw [List.append_assoc] at hread
    simp [encodeRequest, parseRequest, hread, parsedOr]
  | setSurvey a => simp [encodeRequest, parseRequest, parseSurvey_surveyBytes, parsedOr]
  | loadSteps first records =>
    have hlen : records.length < 256 := by simp [Request.wellFormed, maxPayload] at h; omega
    simp [encodeRequest, parseRequest, parseSteps_bytes first hlen, parsedOr]
  | loadDestination number digits flag =>
    have hlen : digits.length < 256 := by simp [Request.wellFormed, maxPayload] at h; omega
    simp [encodeRequest, parseRequest, parseDestination_bytes number flag hlen, parsedOr]
  | setPreferences records =>
    have hlen : records.length < 256 := by simp [Request.wellFormed, maxPayload] at h; omega
    simp [encodeRequest, parseRequest, parsePreferences_bytes hlen, parsedOr]
  | setBoxRecord identity location =>
    have hlen : identity.length < 256 ∧ location.length < 256 := by
      simp [Request.wellFormed, maxPayload] at h; omega
    simp [encodeRequest, parseRequest, parseBox_bytes hlen.1 hlen.2, parsedOr]
  | readPlanSteps | readPlanDestination | readPlanBox =>
    simp [encodeRequest, parseRequest, parsePlan, parseReadPlan, parsedOr]
  | status | startCall | endCall | surveyHold | surveyRelease | surveyNow | readTableBySlot | readTableRanked
  | readLogRecords | readLogSummary | readPending | setReports | portControlDisable | portControlEnable
  | clearAttention | clearTable | commitConfig | reset => rfl

theorem length_optWordBytes (w : Option Word) : (optWordBytes w).length = 3 := by cases w <;> rfl

theorem length_optByteBytes (b : Option Byte) : (optByteBytes b).length = 2 := by cases b <;> rfl

theorem length_encodeRequest {r : Request} (h : r.wellFormed = true) : (encodeRequest r).payload.length ≤ 199 := by
  cases r with
  | setTuning a => simp [encodeRequest, tuningBytes, length_optWordBytes, length_optByteBytes]
  | setSupply a => simp [encodeRequest, length_optWordBytes]
  | setSurvey a =>
    obtain ⟨period, compares, policies⟩ := a
    cases compares <;> cases policies <;> simp [encodeRequest, surveyBytes, length_optWordBytes, wordBytes]
  | loadSteps first records =>
    have hfits : (records.flatMap stepBytesList).length = records.length * 5 := by
      simp [List.length_flatMap, stepBytesList]
    simp [Request.wellFormed, maxPayload] at h
    simp [encodeRequest, hfits]
    omega
  | setPreferences records =>
    have hfits : (records.flatMap preferenceBytesList).length = records.length * 4 := by
      simp [List.length_flatMap, preferenceBytesList, code24Bytes]
    simp [Request.wellFormed, maxPayload] at h
    simp [encodeRequest, hfits]
    omega
  | loadDestination | setBoxRecord =>
    simp [Request.wellFormed, maxPayload] at h
    simp [encodeRequest, textBytes]
    omega
  | status | startCall | endCall | surveyHold | surveyRelease | surveyNow | readTableBySlot | readTableRanked
  | readPlanSteps | readPlanDestination | readPlanBox | readLogRecords | readLogSummary | readPending | setReports
  | portControlDisable | portControlEnable | clearAttention | clearTable | commitConfig | reset =>
    simp [encodeRequest]

/-! ## The bits of a line (10 R180) -/

/-- Eight bits make the byte they were read from. -/
theorem flagBits_getLsbD (b : Byte) :
    flagBit (b.getLsbD 0) 0 ||| flagBit (b.getLsbD 1) 1 ||| flagBit (b.getLsbD 2) 2 ||| flagBit (b.getLsbD 3) 3
      ||| flagBit (b.getLsbD 4) 4 ||| flagBit (b.getLsbD 5) 5 ||| flagBit (b.getLsbD 6) 6 ||| flagBit (b.getLsbD 7) 7
      = b := by
  revert b
  decide

theorem lineBytes_lineBits (bytes : List Byte) : lineBytes? (lineBits bytes) = some bytes := by
  induction bytes with
  | nil => rfl
  | cons b bytes ih =>
    have hsplit : lineBits (b :: bytes) = charBits b ++ lineBits bytes := rfl
    rw [hsplit]
    simp only [charBits, List.cons_append, List.nil_append, lineBytes?, ih, Option.map_some, flagBits_getLsbD]

/-- Settles O54. -/
theorem requestsReadBack : Obligations.RequestsReadBack := by
  unfold Obligations.RequestsReadBack
  refine ⟨fun r hr => ⟨parseRequest_encodeRequest hr, length_encodeRequest hr, lineBytes_lineBits _⟩,
    fun bytes => ⟨?_, lineBytes_lineBits bytes⟩⟩
  exact List.flatMap_congr fun b _ => rfl

end Sys2Proof.Machine
end

section
/-! Requests served on a ready link (10 R186): the reply that comes of each, and the requests that read or set one
block. -/

namespace Sys2Proof.Machine

variable {s : State}

/-! ## Serving a request -/

theorem exec_command (r : Request) (s : State) : exec r.command s = outcomeOf (requestArrives r s) := by
  cases r <;> rfl

theorem exec_unknownRequest (type : Byte) (payload : List Byte) (s : State) :
    exec (.unknownRequest type payload) s = outcomeOf (hostFrame ⟨type, payload⟩ s) := rfl

/-- A request on a ready link is handled and answered in its own event. -/
theorem exec_ready {r : Request} (h : LinkReady s) (hw : r.wellFormed = true) (hr : r ≠ .commitConfig) :
    exec r.command s = outcomeOf ((handle r (lineIdle s)).after
      (placeReply (replyType (encodeRequest r).type) (handle r (lineIdle s)).code (handle r (lineIdle s)).contents
        (handle r (lineIdle s)).before)) := by
  rw [exec_command, requestArrives, hostFrame_ready _ _ h, serveFrame, parseRequest_encodeRequest hw]
  cases r <;> first | exact absurd rfl hr | rfl

/-- A request whose handling ends with its reply. -/
theorem exec_answered {r : Request} {code : ReplyCode} {contents : Contents} {u : State} (h : LinkReady s)
    (hw : r.wellFormed = true) (hr : r ≠ .commitConfig) (hh : handle r (lineIdle s) = answered code contents u) :
    exec r.command s = .next (placeReply (replyType (encodeRequest r).type) code contents u) := by
  rw [exec_ready h hw hr, hh]
  rfl

@[simp] theorem lineIdle_blocks (s : State) : (lineIdle s).campaign = s.campaign ∧ (lineIdle s).supply = s.supply
    ∧ (lineIdle s).table = s.table ∧ (lineIdle s).cfg = s.cfg ∧ (lineIdle s).survey = s.survey
    ∧ (lineIdle s).log = s.log ∧ (lineIdle s).serial = s.serial ∧ (lineIdle s).ports = s.ports
    ∧ (lineIdle s).board = s.board ∧ (lineIdle s).store = s.store
    ∧ (lineIdle s).link = { s.link with rx := .hunting } := by
  simp [lineIdle]

@[simp] theorem lineIdle_port (s : State) (p : Port) : (lineIdle s).port p = s.port p := rfl

/-! ## Replies and reports in the outbound queue -/

@[simp] theorem placeReply_blocks (type : Byte) (code : ReplyCode) (contents : Contents) (s : State) :
    (placeReply type code contents s).campaign = s.campaign ∧ (placeReply type code contents s).supply = s.supply
      ∧ (placeReply type code contents s).table = s.table ∧ (placeReply type code contents s).cfg = s.cfg
      ∧ (placeReply type code contents s).survey = s.survey ∧ (placeReply type code contents s).log = s.log
      ∧ (placeReply type code contents s).serial = s.serial ∧ (placeReply type code contents s).ports = s.ports
      ∧ (placeReply type code contents s).board = s.board ∧ (placeReply type code contents s).store = s.store := by
  rw [placeReply_eq]
  simp

@[simp] theorem placeReply_port (type : Byte) (code : ReplyCode) (contents : Contents) (s : State) (p : Port) :
    (placeReply type code contents s).port p = s.port p := by
  rw [placeReply_eq]
  rfl

theorem placeFrame_head (f : OutFrame) (l : Link) (h : l.outbound = []) :
    placeFrame f l = captureFlags { l with outbound := [f] } := by
  simp [placeFrame, h]

theorem placeFrame_behind (f : OutFrame) (l : Link) (h : l.outbound ≠ []) :
    placeFrame f l = { l with outbound := l.outbound ++ [f] } := by
  simp [placeFrame, h]

/-- Settles O20. -/
theorem framesPlaced : Obligations.FramesPlaced := by
  unfold Obligations.FramesPlaced
  refine ⟨fun type code contents s hroom => ⟨fun hempty => ?_, fun hqueued => ?_⟩, fun r s => ⟨fun hstart => ?_,
    fun c hc => ⟨fun hmask hroom => ?_, fun hheld => ?_⟩⟩⟩
  · rw [placeReply_eq, if_pos hroom, placeFrame_head _ _ hempty]
    rfl
  · rw [placeReply_eq, if_pos hroom, placeFrame_behind _ _ hqueued]
  · simp only [raise_eq, Link.raised, hstart]
  · simp [raise_eq, Link.raised, hc, hmask, hroom]
  · rcases hheld with h | h
    · simp [raise_eq, Link.raised, hc, h]
    · simp [raise_eq, Link.raised, hc, Nat.not_le.mpr h]

/-! ## START_CALL (03 R57) -/

/-- Settles O5. -/
theorem startCall : Obligations.StartCall := by
  unfold Obligations.StartCall
  refine ⟨fun s seconds more hready hidle hmode hhalt hstep => ?_, fun s hready hidle hcall => ?_,
    fun s hready hstate hsupply => ?_⟩
  · have hstart : ∀ u : State, u.campaign = s.campaign → u.supply = s.supply → canStart u = true := fun u hc hs => by
      rw [canStart_iff, hc, hs]
      exact ⟨.inl hidle, hmode, hhalt⟩
    have hcode : startCallCode (lineIdle s) = .ok := by
      rw [startCallCode, if_pos (hstart _ (by simp) (by simp))]
    refine (exec_ready (r := .startCall) hready rfl (by simp)).trans ?_
    simp only [handle, handleStartCall, hcode, hstart (lineIdle s) (by simp) (by simp), if_true]
    rw [startCampaign_wait (placeReply _ _ _ (lineIdle s)) .host (by simpa using hidle) (by simpa using hstep)]
    simp only [placeReply_blocks, lineIdle_blocks]
    rfl
  · have hrefused : ∀ u : State, u.campaign = s.campaign → canStart u = false := fun u hc => by
      simp [canStart, hc, hidle, hcall]
    refine (exec_ready (r := .startCall) hready rfl (by simp)).trans ?_
    have hcode : startCallCode (lineIdle s) = .busy := by simp [startCallCode, hrefused, hidle, hcall]
    simp only [handle, handleStartCall, hcode, hrefused (lineIdle s) (by simp)]
    rfl
  · have hrefused : ∀ u : State, u.supply = s.supply → canStart u = false := fun u hs => by
      rcases hsupply with h | h <;> simp [canStart, hs, h]
    refine (exec_ready (r := .startCall) hready rfl (by simp)).trans ?_
    have hcode : startCallCode (lineIdle s) = .power := by simp [startCallCode, hrefused, hstate]
    simp only [handle, handleStartCall, hcode, hrefused (lineIdle s) (by simp)]
    rfl

/-! ## Frames kept, lost or unknown (10 R183, R186) -/

theorem replyType_eq (type : Byte) : replyType type = type + 0x80 := rfl

theorem parseRequest_unknown {type : Byte} {payload : List Byte} (h : type = 0 ∨ 0x16 < type.toNat) :
    parseRequest ⟨type, payload⟩ = .unknown := by
  have hnat : type.toNat = 0 ∨ 22 < type.toNat := by
    rcases h with rfl | h
    · exact .inl rfl
    · exact .inr h
  unfold parseRequest
  dsimp only
  clear h
  generalize type.toNat = n at hnat
  split <;> first | rfl | (exfalso; omega)

theorem parseRequest_short {type : Byte} (h : (0x04 ≤ type.toNat ∧ type.toNat ≤ 0x0F)
    ∨ (0x11 ≤ type.toNat ∧ type.toNat ≤ 0x13) ∨ type = 0x16) : parseRequest ⟨type, []⟩ = .badArgument := by
  have hnat : (4 ≤ type.toNat ∧ type.toNat ≤ 15) ∨ (17 ≤ type.toNat ∧ type.toNat ≤ 19) ∨ type.toNat = 22 := by
    rcases h with h | h | rfl
    · exact .inl h
    · exact .inr (.inl h)
    · exact .inr (.inr rfl)
  clear h
  unfold parseRequest
  dsimp only
  generalize type.toNat = n at hnat
  rcases hnat with ⟨hlo, hhi⟩ | ⟨hlo, hhi⟩ | rfl
  · interval_cases n <;> rfl
  · interval_cases n <;> rfl
  · rfl

/-- Settles O24. -/
theorem framesQueuedOrAnswered : Obligations.FramesQueuedOrAnswered := by
  unfold Obligations.FramesQueuedOrAnswered
  refine ⟨fun r s hheld => ?_, fun s type hready => ⟨fun payload htype => ?_, fun htype => ?_⟩⟩
  · rw [exec_command, requestArrives, hostFrame_held _ _ hheld]
    constructor
    · intro hroom
      simp [State.onLink, hroom]
    · intro hfull
      simp [State.onLink, Nat.not_lt.mpr hfull]
  · rw [exec_unknownRequest, hostFrame_ready _ _ hready, serveFrame, parseRequest_unknown htype]
    rfl
  · rw [exec_unknownRequest, hostFrame_ready _ _ hready, serveFrame, parseRequest_short htype]
    rfl

end Sys2Proof.Machine
end

section
/-! Requests that read, and requests that set one block and report nothing (10 section 10.4). -/

namespace Sys2Proof.Machine

variable {s : State}

/-! ## Requests that read -/

theorem Campaign.active_eq (c : Campaign) : c.active = decide (c.state ≠ .idle) := by
  cases h : c.state <;> simp [Campaign.active, h]

/-- A part of a list from a position. -/
theorem getElem?_take_drop {α : Type} (l : List α) (i n j : Nat) (h : j < ((l.drop i).take n).length) :
    ((l.drop i).take n)[j]? = l[i + j]? := by
  rw [List.length_take] at h
  rw [List.getElem?_take_of_lt (by omega), List.getElem?_drop]

/-- Settles O25. -/
theorem statusAndLogRead : Obligations.StatusAndLogRead := by
  unfold Obligations.StatusAndLogRead
  refine ⟨fun s hready => ⟨statusView (lineIdle s), exec_answered (r := .status) hready rfl (by simp) rfl, rfl, rfl, rfl,
    fun x hx => ?_, fun hx => ?_, rfl, rfl, rfl, fun b hb => ?_, fun hb => ?_, rfl, rfl, rfl, rfl, rfl,
    fun p => by cases p <;> rfl, rfl, rfl⟩, fun s position count hready => ⟨fun hpos hone hfour => ?_, fun hbad => ?_⟩,
    fun s hready => ⟨fun m hm => ?_, fun hm => ?_⟩⟩
  · simp [statusView, hx]
  · simp [statusView, hx]
  · simp [statusView, hb]
  · simp [statusView, hb]
  · refine ⟨(s.log.records.drop position.toNat).take count.toNat, ?_, by simp,
      fun i hi => getElem?_take_drop _ _ _ _ hi⟩
    refine exec_answered (r := .readLogRecords position count) hready rfl (by simp) ?_
    simp only [handle, handleReadLogRecords, if_pos (And.intro hpos (And.intro hone hfour)), lineIdle_blocks,
      Campaign.active_eq]
  · refine exec_answered (r := .readLogRecords position count) hready rfl (by simp) ?_
    rw [handle, handleReadLogRecords, if_neg]
    · rfl
    · rintro ⟨hpos, hone, hfour⟩
      rcases hbad with h | rfl | h
      · omega
      · simp at hone
      · omega
  · exact exec_answered (r := .readLogSummary) hready rfl (by simp) (by simp [handle, handleReadLogSummary, hm])
  · exact exec_answered (r := .readLogSummary) hready rfl (by simp)
      (by simp [handle, handleReadLogSummary, hm, Campaign.active_eq])


/-! ## Numbers on the line -/

theorem destOf?_of_val {b : Byte} {n : DestNumber} (h : b.toNat = n.val) : destOf? b = some n := by
  simp [destOf?, h]

theorem destOf?_of_gt {b : Byte} (h : 7 < b.toNat) : destOf? b = none := by
  rw [destOf?, dif_neg (by omega)]

theorem planSlotOf?_of_val {b : Byte} {n : PlanSlot} (h : b.toNat = n.val) : planSlotOf? b = some n := by
  simp [planSlotOf?, h]

theorem planSlotOf?_of_gt {b : Byte} (h : 63 < b.toNat) : planSlotOf? b = none := by
  rw [planSlotOf?, dif_neg (by omega)]

theorem toNat_pos_iff {w : Nat} {b : BitVec w} : 1 ≤ b.toNat ↔ b ≠ 0 := by
  rw [Nat.one_le_iff_ne_zero, Ne, Ne, BitVec.toNat_eq]
  simp

/-! ## READ_TABLE, READ_PLAN (01 R26, 02 R52) -/

theorem take_range' (i n m : Nat) : (List.range' i n).take m = List.range' i (min m n) := by
  refine List.ext_getElem (by simp) fun j hj hk => ?_
  simp

theorem numbered_positions (n : Nat) (l : List (TableSlot × Entry)) :
    (numbered n l).map (fun x => x.2.1) = List.range' n l.length := by
  induction l generalizing n with
  | nil => rfl
  | cons x rest ih => simp [numbered, ih, List.range'_succ]

theorem numbered_entry {n : Nat} {l : List (TableSlot × Entry)} {x : TableSlot × Nat × Entry}
    (h : x ∈ numbered n l) : ∃ i, x.2.1 = n + i ∧ l[i]? = some (x.1, x.2.2) := by
  induction l generalizing n with
  | nil => cases h
  | cons y rest ih =>
    rcases List.mem_cons.mp h with rfl | h
    · exact ⟨0, rfl, rfl⟩
    · obtain ⟨i, hi, hx⟩ := ih h
      exact ⟨i + 1, by omega, hx⟩

theorem planSlotsFrom_val (slot : PlanSlot) (n : Nat) :
    (planSlotsFrom slot n).map Fin.val = (List.range n).map fun i => (slot.val + i) % 64 := by
  induction n generalizing slot with
  | zero => rfl
  | succ n ih =>
    rw [planSlotsFrom, List.map_cons, ih, List.range_succ_eq_map, List.map_cons, List.map_map]
    congr 1
    · simp [Nat.mod_eq_of_lt slot.isLt]
    · refine List.map_congr_left fun i _ => ?_
      simp [Fin.val_add, Nat.add_assoc, Nat.add_comm 1 i]

/-- The slots of a READ_TABLE by slot. -/
theorem tableSlots_val (i n : Nat) : ((tableSlots.drop i).take n).map Fin.val = List.range' i (min n (24 - i)) := by
  rw [List.map_take, List.map_drop, tableSlots, List.map_coe_finRange_eq_range, List.range_eq_range',
    List.drop_range', take_range']
  simp

/-- Settles O26. -/
theorem tableAndPlanRead : Obligations.TableAndPlanRead := by
  unfold Obligations.TableAndPlanRead
  refine ⟨fun s first count hready => ⟨fun hfirst hone hsix => ?_, fun hbad => ?_⟩,
    fun s position count hready => ⟨fun hone hsix => ?_, fun hbad => ?_⟩,
    fun s first count hready => ⟨fun hfirst hone height => ?_, fun hbad => ?_⟩,
    fun s hready => ⟨?_, fun n => ?_, fun number hbad => ?_, fun selector more h1 h2 h3 => ?_⟩⟩
  · refine ⟨((tableSlots.drop first.toNat).take count.toNat).map fun x => (x, s.table.entry x), ?_, ?_, ?_⟩
    · refine exec_answered (r := .readTableBySlot first count) hready rfl (by simp) ?_
      simp only [handle, handleReadTableBySlot, if_pos (And.intro hfirst (And.intro hone hsix)), lineIdle_blocks]
    · rw [List.map_map]
      exact tableSlots_val _ _
    · intro x hx
      obtain ⟨slot, -, rfl⟩ := List.mem_map.mp hx
      rfl
  · refine exec_answered (r := .readTableBySlot first count) hready rfl (by simp) ?_
    rw [handle, handleReadTableBySlot, if_neg]
    · rfl
    · rintro ⟨hfirst, hone, hsix⟩
      rcases hbad with h | h | h
      · omega
      · exact toNat_pos_iff.mp hone h
      · omega
  · refine ⟨((numbered 0 s.table.ranked).drop position.toNat).take count.toNat, ?_, ?_, ?_⟩
    · refine exec_answered (r := .readTableRanked position count) hready rfl (by simp) ?_
      simp only [handle, handleReadTableRanked, if_pos (And.intro hone hsix), lineIdle_blocks]
    · rw [List.map_take, List.map_drop, numbered_positions, List.drop_range', take_range']
      simp
    · intro x hx
      obtain ⟨i, hi, hentry⟩ := numbered_entry (List.mem_of_mem_drop (List.mem_of_mem_take hx))
      rw [hi, Nat.zero_add, hentry]
  · refine exec_answered (r := .readTableRanked position count) hready rfl (by simp) ?_
    rw [handle, handleReadTableRanked, if_neg]
    · rfl
    · rintro ⟨hone, hsix⟩
      rcases hbad with h | h
      · exact toNat_pos_iff.mp hone h
      · omega
  · have hslot : planSlotOf? first = some ⟨first.toNat, hfirst⟩ := planSlotOf?_of_val rfl
    refine ⟨(planSlotsFrom ⟨first.toNat, hfirst⟩ count.toNat).map fun x => (x, s.cfg.steps.get x), ?_, ?_, ?_⟩
    · refine exec_answered (r := .readPlanSteps first count) hready rfl (by simp) ?_
      simp only [handle, handleReadPlanSteps, hslot, if_pos (And.intro hone height), lineIdle_blocks]
    · rw [List.map_map]
      exact planSlotsFrom_val _ _
    · intro x hx
      obtain ⟨slot, -, rfl⟩ := List.mem_map.mp hx
      rfl
  · refine exec_answered (r := .readPlanSteps first count) hready rfl (by simp) ?_
    rcases hbad with h | h
    · simp only [handle, handleReadPlanSteps, planSlotOf?_of_gt h, refusePlan, lineIdle_blocks]
    · have hno : ¬(1 ≤ count.toNat ∧ count.toNat ≤ 8) := by
        rintro ⟨hone, height⟩
        rcases h with h | h
        · exact toNat_pos_iff.mp hone h
        · omega
      cases hs : planSlotOf? first <;>
        simp only [handle, handleReadPlanSteps, hs, if_neg hno, refusePlan, lineIdle_blocks]
  · exact exec_answered (r := .readPlanBox) hready rfl (by simp) rfl
  · refine exec_answered (r := .readPlanDestination _) hready rfl (by simp) ?_
    have hn : (byteOf n.val).toNat = n.val := by
      have := n.isLt
      simp [byteOf]
      omega
    simp only [handle, handleReadPlanDestination, destOf?_of_val hn, lineIdle_blocks]
  · refine exec_answered (r := .readPlanDestination number) hready rfl (by simp) ?_
    simp only [handle, handleReadPlanDestination, destOf?_of_gt hbad, refusePlan, lineIdle_blocks]
  · have hparsed : parseRequest ⟨0x0E, selector :: more⟩ = .unknownPlan := by
      have hplan : parseRequest ⟨0x0E, selector :: more⟩ = parsePlan (selector :: more) := rfl
      rw [hplan, parsePlan, if_neg (by tauto)]
    rw [exec_unknownRequest, hostFrame_ready _ _ hready, serveFrame, hparsed]
    rfl

/-! ## SET_REPORTS, READ_PENDING (10 R191, R192) -/

theorem reportSet_ofByte?_of_lt {b : Byte} (h : b.toNat < 64) : ReportSet.ofByte? b =
    some ⟨b.getLsbD 0, b.getLsbD 1, b.getLsbD 2, b.getLsbD 3, b.getLsbD 4, b.getLsbD 5⟩ := by
  have h6 : b.getLsbD 6 = false := Nat.testBit_lt_two_pow h
  have h7 : b.getLsbD 7 = false := Nat.testBit_lt_two_pow (show b.toNat < 2 ^ 7 by omega)
  rw [ReportSet.ofByte?, h6, h7]
  rfl

theorem reportSet_ofByte?_of_ge {b : Byte} (h : 64 ≤ b.toNat) : ReportSet.ofByte? b = none := by
  have hbit : b.getLsbD 6 = true ∨ b.getLsbD 7 = true := by
    by_contra hno
    obtain ⟨h6, h7⟩ : b.getLsbD 6 = false ∧ b.getLsbD 7 = false := by simpa using hno
    refine absurd (Nat.lt_pow_two_of_testBit (n := 6) b.toNat fun i hi => ?_) (by omega)
    rcases (by omega : i = 6 ∨ i = 7 ∨ 8 ≤ i) with rfl | rfl | hi
    · exact h6
    · exact h7
    · exact b.getLsbD_of_ge i hi
  rcases hbit with h | h <;> simp [ReportSet.ofByte?, h]

/-- Settles O34. -/
theorem reportRequests : Obligations.ReportRequests := by
  unfold Obligations.ReportRequests
  refine fun s hready => ⟨fun mask h => ?_, fun mask h => ?_, ?_⟩
  · refine exec_answered (r := .setReports mask) hready rfl (by simp) ?_
    simp only [handle, handleSetReports, reportSet_ofByte?_of_lt h]
    rfl
  · refine exec_answered (r := .setReports mask) hready rfl (by simp) ?_
    simp only [handle, handleSetReports, reportSet_ofByte?_of_ge h]
    rfl
  · exact exec_answered (r := .readPending) hready rfl (by simp) rfl

/-! ## COMMIT_CONFIG, RESET (11 R196, 10 R194) -/

theorem commitEnds_idle {verified : Bool} (h : s.store.writing = none) : commitEnds verified s = some s := by
  simp [commitEnds, h]

/-- No request is taken where none waits. -/
theorem serveWaiting_none (h : s.link.inbound = []) : serveWaiting s = some s := by
  simp [serveWaiting, h, takeRequests]

@[simp] theorem placeReply_inbound (type : Byte) (code : ReplyCode) (contents : Contents) (s : State) :
    (placeReply type code contents s).link.inbound = s.link.inbound := by
  rw [placeReply_eq]
  split
  · simp only [placeFrame, captureFlags]
    repeat' split
    all_goals rfl
  · rfl

/-- Settles O37. -/
theorem commitAndReset : Obligations.CommitAndReset := by
  unfold Obligations.CommitAndReset
  refine ⟨fun s hready => ?_, fun s image hwriting hroom hempty => ⟨?_, ?_⟩, fun s verified hidle => ?_,
    fun s force hready => ⟨fun hforce hstate => ?_, fun hgoes => ?_⟩⟩
  · have hexec : exec .commitConfig s = outcomeOf (hostFrame (encodeRequest .commitConfig) s) := rfl
    rw [hexec, hostFrame_ready _ _ hready]
    rfl
  · have hexec : exec (.commitDone true) s = outcomeOf (commitEnds true s) := rfl
    rw [hexec, commitEnds, hwriting]
    dsimp only
    rw [if_pos rfl, serveWaiting_none (by simp [hempty])]
    rfl
  · have hexec : exec (.commitDone false) s = outcomeOf (commitEnds false s) := rfl
    rw [hexec, commitEnds, hwriting]
    dsimp only
    rw [if_neg (by simp), serveWaiting_none (by simp [hempty])]
    rfl
  · have hexec : exec (.commitDone verified) s = outcomeOf (commitEnds verified s) := rfl
    rw [hexec, commitEnds_idle hidle, outcomeOf_some]
  · have hrefused : resetRefused force (lineIdle s) = true := by
      simp [resetRefused, hforce, byteSet, hstate, or_assoc]
    refine exec_answered (r := .reset force) hready rfl (by simp) ?_
    simp only [handle, handleReset, hrefused, if_true]
    rfl
  · have htaken : resetRefused force (lineIdle s) = false := by
      rcases hgoes with h | ⟨h1, h2, h3⟩
      · simp [resetRefused, (by simpa [byteSet] using h : byteSet force = true)]
      · simp [resetRefused, h1, h2, h3]
    refine exec_answered (r := .reset force) hready rfl (by simp) ?_
    simp [handle, handleReset, htaken]
    rfl

end Sys2Proof.Machine
end

section
/-! Requests that set the configuration, the attention sets and the table (10 section 10.4). -/

namespace Sys2Proof.Machine

variable {s : State}

/-! ## Values that may be absent -/

/-- A value carried is read, one absent keeps its setting. -/
theorem getD_map_eq {α β : Type} {o : Option α} {f : α → β} {d w : β} (hnone : o = none → w = d)
    (hsome : ∀ v, o = some v → w = f v) : (o.map f).getD d = w := by
  cases o with
  | none => simp [hnone rfl]
  | some v => simp [hsome v rfl]

theorem clampNat_eq {lo hi n : Nat} (h : lo ≤ hi) : clampNat lo hi n = max lo (min hi n) := by
  unfold clampNat
  split
  · omega
  · split <;> omega

theorem byteSet_eq (b : Byte) : byteSet b = decide (b ≠ 0) := by
  simp [byteSet, bne, beq_eq_decide]

/-! ## SET_SUPPLY (09 R169) -/

theorem clampThresholds_eq (t : Thresholds) : clampThresholds t =
    ⟨max 9400 (min 15000 t.warn), max 9200 (min (max 9400 (min 15000 t.warn) - 200) t.shed),
      max 9000 (min (max 9200 (min (max 9400 (min 15000 t.warn) - 200) t.shed) - 200) t.cutoff)⟩ := by
  simp only [clampThresholds]
  rw [clampNat_eq (by omega), clampNat_eq (by omega), clampNat_eq (by omega)]

/-- Settles O28. -/
theorem thresholdsSet : Obligations.ThresholdsSet := by
  unfold Obligations.ThresholdsSet
  intro s a w x y t hready hw0 hw hx0 hx hy0 hy htw htx hty
  have hnew : newThresholds a s.cfg.thresholds = t := by
    rw [newThresholds, getD_map_eq hw0 hw, getD_map_eq hx0 hx, getD_map_eq hy0 hy, clampThresholds_eq]
    dsimp only
    rw [← htw, ← htx, ← hty]
  refine ⟨hnew ▸ clampThresholds_ordered _, ?_⟩
  refine exec_answered (r := .setSupply a) hready rfl (by simp) ?_
  simp only [handle, handleSetSupply, lineIdle_blocks, hnew]
  rfl

/-! ## SET_TUNING (10 R189) -/

/-- The clearing of the standby record (04 R87). -/
theorem clearStandby_some {reason : StandbyReason} {b : Standby} (h : s.campaign.standby = some b) :
    clearStandby reason s = raise (.standby none b.entry b.port (some reason)) { s with
      campaign := { s.campaign with standby := none }
      table := s.table.onEntry b.entry fun e => { e with holds := { e.holds with standby := false } } } := by
  simp only [clearStandby, h]
  rfl

theorem clearStandby_none {reason : StandbyReason} (h : s.campaign.standby = none) : clearStandby reason s = s := by
  simp only [clearStandby, h]

theorem slotOfByte_val (b : Byte) : (slotOfByte b).val = min 63 b.toNat := by
  simp only [slotOfByte, clampNat_eq (Nat.zero_le _), Fin.val_ofNat]
  omega

/-- Settles O27. -/
theorem tuningSet : Obligations.TuningSet := by
  unfold Obligations.TuningSet
  intro s a t hready hfloor0 hfloor hring0 hring hwindow0 hwindow hlimit0 hlimit hstandby0 hstandby hanswer0 hanswer
    hslot0 hslot
  have hnew : newTuning a s.cfg.tuning = t := by
    rw [newTuning, getD_map_eq hfloor0 (f := fun w => clampNat 0 780 w.toNat) (w := t.floor),
      getD_map_eq hring0 (w := t.ringTimeout), getD_map_eq hwindow0 (w := t.callbackWindow),
      getD_map_eq hlimit0 (w := t.recoveryLimit), getD_map_eq hstandby0 (w := t.standbyEnable),
      getD_map_eq hanswer0 (w := t.answerInIdle), getD_map_eq hslot0 (w := t.entrySlot)]
    · intro b hb
      exact Fin.ext (by rw [hslot b hb, slotOfByte_val])
    · intro b hb
      rw [byteSet_eq, Bool.eq_iff_iff, hanswer b hb, decide_eq_true_iff]
    · intro b hb
      rw [byteSet_eq, Bool.eq_iff_iff, hstandby b hb, decide_eq_true_iff]
    · intro b hb
      rw [hlimit b hb, clampNat_eq (by omega), Nat.zero_max]
    · intro w hw
      rw [hwindow w hw, clampNat_eq (by omega), Nat.zero_max]
    · intro b hb
      rw [hring b hb, clampNat_eq (by omega)]
    · intro w hw
      rw [hfloor w hw, clampNat_eq (by omega), Nat.zero_max]
  have hexec : exec (.setTuning a) s = outcomeOf (some
      (if s.cfg.tuning.standbyEnable && !t.standbyEnable then clearStandby .disabled
        (placeReply 0x84 .ok (.tuning t) (rescoreAll ((lineIdle s).onConfig fun g => { g with tuning := t })))
      else placeReply 0x84 .ok (.tuning t) (rescoreAll ((lineIdle s).onConfig fun g => { g with tuning := t })))) := by
    refine (exec_ready (r := .setTuning a) hready rfl (by simp)).trans ?_
    simp only [handle, handleSetTuning, lineIdle_blocks, hnew]
    rfl
  refine ⟨_, rfl, fun hstays => ?_, fun b hb hon hoff => ?_⟩
  · rw [hexec]
    split
    next hcleared =>
      rw [clearStandby_none]
      · rfl
      · rcases hstays with h | h | h
        · simpa [rescoreAll, State.onConfig, State.onTable] using h
        · simp [h] at hcleared
        · simp [h] at hcleared
    next => rfl
  · rw [hexec, if_pos (by simp [hon, hoff]), clearStandby_some (b := b)
      (by simpa [rescoreAll, State.onConfig, State.onTable] using hb)]
    simp only [placeReply_blocks]
    rfl

/-! ## LOAD_DESTINATION, SET_BOX_RECORD (02 R47, R48) -/

theorem dialChar_iff {b : Byte} : dialChar b = true ↔ (0x30 ≤ b.toNat ∧ b.toNat ≤ 0x39) ∨ b = 0x2A ∨ b = 0x23 := by
  simp [dialChar, BitVec.toNat_eq, or_assoc]

theorem printable_iff {b : Byte} : printable b = true ↔ 0x20 ≤ b.toNat ∧ b.toNat ≤ 0x7E := by
  simp [printable]

/-- Settles O32. -/
theorem destinationAndBoxLoaded : Obligations.DestinationAndBoxLoaded := by
  unfold Obligations.DestinationAndBoxLoaded
  refine ⟨fun s number dataFlag digits hready hlen => ⟨fun n hn hshort hchars => ?_, fun hbad => ?_⟩,
    fun s identity location hready hlen => ⟨fun hidentity hchars => ?_, fun hbad => ?_⟩⟩
  · have hdial : digits.all dialChar = true := List.all_eq_true.mpr fun b hb => dialChar_iff.mpr (hchars b hb)
    refine exec_answered (r := .loadDestination number digits dataFlag) hready
      (by simp [Request.wellFormed, maxPayload]; omega) (by simp) ?_
    simp only [handle, handleLoadDestination, destOf?_of_val hn, hdial, hshort, byteSet_eq]
    rfl
  · refine exec_answered (r := .loadDestination number digits dataFlag) hready
      (by simp [Request.wellFormed, maxPayload]; omega) (by simp) ?_
    simp only [handle, handleLoadDestination]
    rcases hbad with h | h
    · rw [destOf?_of_gt h]
      rfl
    · have hrefused : ¬(decide (digits.length ≤ 20) && digits.all dialChar) = true := by
        rw [Bool.and_eq_true, decide_eq_true_iff, List.all_eq_true]
        rintro ⟨hshort, hall⟩
        rcases h with h | ⟨b, hb, hrange, hstar, hhash⟩
        · omega
        · rcases dialChar_iff.mp (hall b hb) with h | h | h
          · omega
          · exact hstar h
          · exact hhash h
      split
      · rfl
      · rw [if_neg hrefused]
        rfl
  · have hall : identity.all printable = true ∧ location.all printable = true := by
      simp only [List.all_eq_true, printable_iff]
      exact ⟨fun b hb => hchars b (List.mem_append_left _ hb), fun b hb => hchars b (List.mem_append_right _ hb)⟩
    refine exec_answered (r := .setBoxRecord identity location) hready
      (by simp [Request.wellFormed, maxPayload]; omega) (by simp) ?_
    simp only [handle, handleSetBoxRecord]
    rw [if_pos (by simp [hall, hidentity]), List.length_take, List.length_take]
    rfl
  · refine exec_answered (r := .setBoxRecord identity location) hready
      (by simp [Request.wellFormed, maxPayload]; omega) (by simp) ?_
    simp only [handle, handleSetBoxRecord]
    rw [if_neg]
    · rfl
    · simp only [Bool.and_eq_true, List.all_eq_true, printable_iff]
      rintro ⟨⟨hne, hid⟩, hloc⟩
      rcases hbad with rfl | ⟨b, hb, hrange⟩
      · simp at hne
      · rcases List.mem_append.mp hb with h | h
        · have := hid b h
          omega
        · have := hloc b h
          omega

/-! ## SET_PREFERENCES (01 R15) -/

theorem preferenceRecordOf?_eq {r : PreferenceBytes} {x : PreferenceRecord} (hop : r.operator.toNat ≤ 999999)
    (hx : x.operator = r.operator.toNat) (hp : (r.preference = 0xFF ∧ x.preference = .bar)
      ∨ ∃ n : Fin 4, r.preference.toNat = n.val ∧ x.preference = .weight n) :
    preferenceRecordOf? r = some x := by
  obtain ⟨operator, preference⟩ := x
  subst hx
  rw [preferenceRecordOf?, if_pos (show _ ≤ maxOperator from hop)]
  rcases hp with ⟨h, rfl⟩ | ⟨n, h, rfl⟩
  · simp [preferenceOf?, h]
  · have hlt : r.preference.toNat < 4 := h ▸ n.isLt
    simp [preferenceOf?, h]

theorem preferenceRecordOf?_none {r : PreferenceBytes} (h : 999999 < r.operator.toNat
    ∨ (4 ≤ r.preference.toNat ∧ r.preference.toNat ≤ 254)) : preferenceRecordOf? r = none := by
  unfold preferenceRecordOf?
  split
  next hop =>
    rcases h with h | ⟨hlo, hhi⟩
    · exact absurd hop (Nat.not_le.mpr h)
    · have hbar : r.preference ≠ 0xFF := fun hff => by simp [hff] at hhi
      rw [preferenceOf?, dif_neg (by omega), if_neg hbar]
      rfl
  next => rfl

theorem preferencesOf?_eq {records : List PreferenceBytes} {list : List PreferenceRecord}
    (h : records.map preferenceRecordOf? = list.map some) : preferencesOf? records = some list := by
  induction records generalizing list with
  | nil =>
    cases list with
    | nil => rfl
    | cons => simp at h
  | cons r rest ih =>
    cases list with
    | nil => simp at h
    | cons x xs =>
      obtain ⟨hx, hxs⟩ := List.cons.inj h
      simp [preferencesOf?, hx, ih hxs]

theorem preferencesOf?_none {records : List PreferenceBytes} (h : ∃ r ∈ records, preferenceRecordOf? r = none) :
    preferencesOf? records = none := by
  induction records with
  | nil => simp at h
  | cons r rest ih =>
    unfold preferencesOf?
    split
    next x xs hx hxs =>
      obtain ⟨q, hq, hnone⟩ := h
      rcases List.mem_cons.mp hq with rfl | hq
      · simp [hnone] at hx
      · simp [ih ⟨q, hq, hnone⟩] at hxs
    next => rfl

/-- Settles O33. -/
theorem preferencesSet : Obligations.PreferencesSet := by
  unfold Obligations.PreferencesSet
  refine fun s records hready hlen => ⟨fun list height hsame hrecords => ?_, fun hbad => ?_⟩
  · have hread : preferencesOf? records = some list := by
      refine preferencesOf?_eq (List.ext_getElem (by simp [hsame]) fun i hi hj => ?_)
      rw [List.length_map] at hi hj
      obtain ⟨hop, hx, hp⟩ := hrecords i records[i] list[i] (List.getElem?_eq_getElem hi) (List.getElem?_eq_getElem hj)
      rw [List.getElem_map, List.getElem_map, preferenceRecordOf?_eq hop hx hp]
    refine exec_answered (r := .setPreferences records) hready
      (by simp [Request.wellFormed, maxPayload]; omega) (by simp) ?_
    simp only [handle, handleSetPreferences, if_neg (Nat.not_lt.mpr height), hread]
    rfl
  · refine exec_answered (r := .setPreferences records) hready
      (by simp [Request.wellFormed, maxPayload]; omega) (by simp) ?_
    simp only [handle, handleSetPreferences]
    split
    · rfl
    next height =>
      rcases hbad with h | ⟨r, hr, h⟩
      · exact absurd h height
      · rw [preferencesOf?_none ⟨r, hr, preferenceRecordOf?_none h⟩]
        rfl

/-! ## LOAD_STEPS (02 R27, R49, R50) -/

theorem stepsOf?_eq {records : List StepBytes} {steps : List PlanStep} (h : records.map stepOf? = steps.map some) :
    stepsOf? records = some steps := by
  induction records generalizing steps with
  | nil =>
    cases steps with
    | nil => rfl
    | cons => simp at h
  | cons r rest ih =>
    cases steps with
    | nil => simp at h
    | cons x xs =>
      obtain ⟨hx, hxs⟩ := List.cons.inj h
      simp [stepsOf?, hx, ih hxs]

theorem stepsOf?_none {records : List StepBytes} (h : ∃ r ∈ records, stepOf? r = none) : stepsOf? records = none := by
  induction records with
  | nil => simp at h
  | cons r rest ih =>
    unfold stepsOf?
    split
    next x xs hx hxs =>
      obtain ⟨q, hq, hnone⟩ := h
      rcases List.mem_cons.mp hq with rfl | hq
      · simp [hnone] at hx
      · simp [ih ⟨q, hq, hnone⟩] at hxs
    next => rfl

theorem storeSteps_other {slot other : PlanSlot} {steps : List PlanStep} {v : Vector PlanStep 64}
    (h : ∀ i, i < steps.length → other ≠ slot + Fin.ofNat 64 i) :
    (storeSteps slot steps v).get other = v.get other := by
  induction steps generalizing slot v with
  | nil => rfl
  | cons x rest ih =>
    have hne : other ≠ slot := fun heq => h 0 (by simp) (by simp [heq])
    rw [storeSteps, ih, get_set, if_neg hne]
    intro i hi heq
    refine h (i + 1) (by simpa using hi) (heq.trans ?_)
    rw [add_assoc]
    congr 1
    apply Fin.ext
    simp [Fin.val_add]
    omega

theorem storeSteps_at {slot : PlanSlot} {steps : List PlanStep} {v : Vector PlanStep 64} (hlen : steps.length ≤ 64)
    {i : Nat} {x : PlanStep} (hx : steps[i]? = some x) :
    (storeSteps slot steps v).get (slot + Fin.ofNat 64 i) = x := by
  induction steps generalizing slot v i with
  | nil => simp at hx
  | cons y rest ih =>
    rw [List.length_cons] at hlen
    cases i with
    | zero =>
      rw [storeSteps, storeSteps_other, get_set, if_pos (by simp)]
      · simpa using hx
      · intro i hi heq
        have hval := congrArg Fin.val heq
        simp [Fin.val_add] at hval
        have := slot.isLt
        omega
    | succ i =>
      have hslot : slot + Fin.ofNat 64 (i + 1) = slot + 1 + Fin.ofNat 64 i := by
        rw [add_assoc]
        congr 1
        apply Fin.ext
        simp [Fin.val_add]
        omega
      rw [storeSteps, hslot]
      exact ih (by omega) (by simpa using hx)

theorem conditionOf?_none {b : Byte} {filter : ClassSet} (h : b = 0 ∨ 4 < b.toNat) : conditionOf? b filter = none := by
  have hnat : b.toNat = 0 ∨ 4 < b.toNat := h.imp (fun h => by simp [h]) id
  unfold conditionOf?
  clear h
  generalize b.toNat = n at hnat
  split <;> first | rfl | (exfalso; omega)

theorem stepOf?_none_of_action {r : StepBytes} (h : r.action = 0 ∨ 7 < r.action.toNat) : stepOf? r = none := by
  have hnat : r.action.toNat = 0 ∨ 7 < r.action.toNat := h.imp (fun h => by simp [h]) id
  unfold stepOf?
  clear h
  generalize r.action.toNat = n at hnat
  split <;> first | rfl | (exfalso; omega)

/-- Settles O31. -/
theorem stepsLoaded : Obligations.StepsLoaded := by
  unfold Obligations.StepsLoaded
  refine ⟨fun s first records hready hlen => ⟨fun hidle hcall => ?_, fun hfree => ⟨fun hbad => ?_,
    fun slot steps hslot hone height hread => ?_⟩⟩, ?_⟩
  · refine exec_answered (r := .loadSteps first records) hready
      (by simp [Request.wellFormed, maxPayload]; omega) (by simp) ?_
    have hbusy : planBusy (lineIdle s) = true := by simp [planBusy, hidle, hcall]
    simp only [handle, handleLoadSteps, hbusy, if_true]
    rfl
  · refine exec_answered (r := .loadSteps first records) hready
      (by simp [Request.wellFormed, maxPayload]; omega) (by simp) ?_
    have hnot : ¬planBusy (lineIdle s) = true := by rcases hfree with h | h <;> simp [planBusy, h]
    simp only [handle, handleLoadSteps, if_neg hnot]
    split
    · rfl
    next hcount =>
      split
      next x xs hx hxs =>
        rcases hbad with rfl | h | h | h
        · simp at hcount
        · omega
        · simp [planSlotOf?_of_gt h] at hx
        · simp [stepsOf?_none h] at hxs
      next => rfl
  · have hnot : ¬planBusy (lineIdle s) = true := by rcases hfree with h | h <;> simp [planBusy, h]
    have hsteps : steps.length = records.length := by simpa using (congrArg List.length hread).symm
    refine ⟨storeSteps slot steps s.cfg.steps, ?_, fun i x hx => storeSteps_at (by omega) hx,
      fun other hother => storeSteps_other hother⟩
    refine exec_answered (r := .loadSteps first records) hready
      (by simp [Request.wellFormed, maxPayload]; omega) (by simp) ?_
    simp only [handle, handleLoadSteps, if_neg hnot, planSlotOf?_of_val hslot.symm, stepsOf?_eq hread]
    rw [if_neg (by omega)]
    rfl
  · rintro more operand filter tries set rfl
    refine ⟨fun d hd hone hseven => ?_, fun hbad => ?_, fun hne => ?_, rfl, ?_, rfl, rfl, rfl, rfl, fun hbad => ?_,
      fun slot hslot => ⟨?_, ?_⟩, fun hbad => ⟨?_, ?_⟩, rfl, fun action hbad => stepOf?_none_of_action hbad⟩
    · simp [stepOf?, hone, hseven, destOf?_of_val hd, byteSet_eq, ClassSet.ofByte]
    · have hdial : stepOf? ⟨1, more, operand, filter, tries⟩ = if 1 ≤ tries.toNat ∧ tries.toNat ≤ 7 then
          (destOf? operand).map fun d => .dial d (ClassSet.ofByte filter) tries.toNat (byteSet more)
        else none := rfl
      rw [hdial]
      split
      next htries =>
        rcases hbad with h | rfl | h
        · simp [destOf?_of_gt h]
        · simp at htries
        · omega
      next => rfl
    · have hpos : ¬operand.toNat = 0 := fun h => hne (BitVec.eq_of_toNat_eq h)
      simp [stepOf?, hpos, byteSet_eq]
    · simp [stepOf?, byteSet_eq]
    · simp [stepOf?, conditionOf?_none hbad]
    · simp [stepOf?, planSlotOf?_of_val hslot]
    · simp [stepOf?, planSlotOf?_of_val hslot]
    · simp [stepOf?, planSlotOf?_of_gt hbad]
    · simp [stepOf?, planSlotOf?_of_gt hbad]

/-! ## A change of each port in turn -/

/-- Where a change of a port comes to a context that only its own port and the blocks other than the ports decide,
the ports in turn come to those contexts. -/
theorem eachPort_eq_build {f : Port → State → State} {g : Port → PortContext}
    (h : ∀ p v, v.get p = s.ports.get p → f p { s with ports := v } = { s with ports := v.put p (g p) }) :
    eachPort f portList s = { s with ports := PerPort.build g } := by
  simp only [portList, eachPort]
  rw [show f .p0 s = _ from h .p0 s.ports rfl, h .p1 (s.ports.put .p0 (g .p0)) rfl,
    h .p2 ((s.ports.put .p0 (g .p0)).put .p1 (g .p1)) rfl,
    h .p3 (((s.ports.put .p0 (g .p0)).put .p1 (g .p1)).put .p2 (g .p2)) rfl]
  rfl

/-! ## CLEAR_ATTENTION, CLEAR_TABLE (06 R139, 01 R25) -/

theorem portSetOf_get (b : Byte) (p : Port) : (portSetOf b).get p = b.getLsbD (portNumber p) := by
  cases p <;> rfl

theorem Holds.any_eq (h : Holds) : h.any = decide (h ≠ Holds.empty) := by
  rw [Bool.eq_iff_iff, decide_eq_true_iff, Ne, ← Holds.any_eq_false_iff, Bool.not_eq_false]

/-- Settles O35. -/
theorem clearRequests : Obligations.ClearRequests := by
  unfold Obligations.ClearRequests
  refine ⟨fun s ports hready => ?_, fun s freed kept hready hfreed hkept => ?_⟩
  · refine exec_answered (r := .clearAttention ports) hready rfl (by simp) ?_
    have hcleared : eachPort (clearAttentionOf (portSetOf ports)) portList (lineIdle s) = { lineIdle s with
        ports := PerPort.build fun p => if ports.getLsbD (portNumber p) then
          { s.port p with attention := ⟨false, false, false, false⟩ } else s.port p } := by
      refine eachPort_eq_build fun p v hv => ?_
      unfold clearAttentionOf
      rw [portSetOf_get]
      split
      · simp only [State.onPort, hv]
        rfl
      · rw [show s.port p = v.get p from hv.symm, PerPort.put_get]
    simp only [handle, handleClearAttention, hcleared, answered]
    congr 2
    simp only [portList, List.filter, portSetOf_get, portNumber]
    cases ports.getLsbD 0 <;> cases ports.getLsbD 1 <;> cases ports.getLsbD 2 <;> cases ports.getLsbD 3 <;> rfl
  · refine ⟨(clearUnheld s).table, ?_, rfl, fun i => ?_⟩
    · have hcounted : countEntries s.table (fun e => !e.holds.any) = freed
          ∧ countEntries s.table (fun e => e.holds.any) = kept := by
        subst hfreed hkept
        simp [countEntries, NetTable.slotsWhere, tableSlots, Holds.any_eq]
      refine (exec_ready (r := .clearTable) hready rfl (by simp)).trans ?_
      simp only [handle, handleClearTable, lineIdle_blocks, hcounted]
      rfl
    · simp only [clearUnheld, State.onTable, NetTable.entry, Holds.any_eq]
      simp [Vector.get]

end Sys2Proof.Machine
end

section
/-! Notices that are discarded, that complete an order, or that a port with a call takes unasked (06 R120 to R128). -/

namespace Sys2Proof.Machine

variable {s : State} {p : Port}

/-! ## Notices that are discarded (06 R125) -/

theorem listens_iff {w : Power} : w.listens = true ↔ w = .on ∨ w = .waking ∨ w = .sleeping := by
  cases w <;> simp [Power.listens]

theorem takeNotice_deaf {n : Notice} (h : (s.port p).power.listens = false) : takeNotice p n s = some s := by
  simp [takeNotice, h]

/-- A notice row is a notice, or none that can be read, on the module line of its port (log 5). -/
theorem exec_notice {c : Instr} (h : c.isNoticeOn p) : ∃ n, exec c s = outcomeOf (moduleNotice p n s) := by
  rcases h with rfl | rfl | rfl | rfl | rfl | rfl | rfl | ⟨_, rfl⟩ | ⟨_, _, rfl⟩ | ⟨_, _, rfl⟩ | ⟨_, rfl⟩ | ⟨_, _, rfl⟩
    | ⟨_, rfl⟩ | ⟨_, _, rfl⟩ <;> exact ⟨_, rfl⟩

theorem moduleNotice_deaf {n : Option Notice} (h : (s.port p).power.listens = false) :
    moduleNotice p n s = some (moduleIdle p s) := by
  cases n with
  | none => rfl
  | some n => rw [moduleNotice_some, takeNotice_deaf (by simpa using h)]

/-- A notice that would complete an order is discarded on a port with nothing in flight. -/
theorem moduleNotice_discarded {n : Notice} (hflight : (s.port p).inFlight = none)
    (h : unaskedNotice p n (moduleIdle p s) = some (moduleIdle p s)) :
    moduleNotice p (some n) s = some (moduleIdle p s) := by
  cases hl : (s.port p).power.listens with
  | false => exact moduleNotice_deaf hl
  | true =>
    rw [moduleNotice_some, takeNotice_unasked (by simpa using hl) (by simp [hflight]), h]

/-- Settles O39. -/
theorem noticesDiscarded : Obligations.NoticesDiscarded := by
  unfold Obligations.NoticesDiscarded
  refine ⟨fun c p s hc hpower => ?_, fun c p s hflight hc => ?_, fun p networks s hmany => ?_⟩
  · obtain ⟨n, hn⟩ := exec_notice (s := s) hc
    have hdeaf : (s.port p).power.listens = false := by rcases hpower with h | h | h | h <;> simp [h, Power.listens]
    rw [hn, moduleNotice_deaf hdeaf, outcomeOf_some]
  · have htaken : ∀ n : Notice, exec c s = outcomeOf (moduleNotice p (some n) s) →
        unaskedNotice p n (moduleIdle p s) = some (moduleIdle p s) → exec c s = .next (moduleIdle p s) := by
      intro n hexec h
      rw [hexec, moduleNotice_discarded hflight h, outcomeOf_some]
    rcases hc with rfl | rfl | rfl | ⟨networks, rfl⟩ | ⟨result, cause, rfl⟩ | ⟨result, rfl⟩ | ⟨hcall, hc⟩
      | ⟨hcall, digits, rfl⟩
    · exact htaken .wakeDone rfl rfl
    · exact htaken .sleepDone rfl rfl
    · exact htaken .detachDone rfl rfl
    · have hexec : exec (.scanResult p networks) s = outcomeOf (moduleNotice p (readScan networks) s) := rfl
      unfold readScan at hexec
      split at hexec
      · exact htaken _ hexec rfl
      · exact hexec
    · exact htaken (readAttach result cause) rfl rfl
    · exact htaken (readData result) rfl rfl
    · rcases hc with rfl | rfl | ⟨cause, moduleCause, rfl⟩ | ⟨level, quality, rfl⟩
      · exact htaken .alerting rfl (by simp [unaskedNotice, hcall, callAtAlerting])
      · exact htaken .connected rfl (by simp [unaskedNotice, hcall, callAtConnected])
      · exact htaken (readCallEnded cause moduleCause) rfl (by simp [readCallEnded, unaskedNotice, unaskedCallEnded, hcall])
      · exact htaken (.servingLevel level quality) rfl (by simp [unaskedNotice, unaskedServing, hcall])
    · exact htaken (.incoming (callerDigits digits)) rfl (by simp [unaskedNotice, unaskedIncoming, hcall])
  · have hexec : exec (.scanResult p networks) s = outcomeOf (moduleNotice p (readScan networks) s) := rfl
    rw [hexec, readScan, if_neg (by omega)]
    rfl

/-! ## Orders that complete (06 R119 to R121) -/

/-- The state a completion works on: the line hunts and nothing is in flight. -/
def noticeTaken (p : Port) (s : State) : State :=
  s.onPort p fun c => { c with rx := .hunting, inFlight := none }

theorem noticeTaken_eq : noticeTaken p s =
    { s with ports := s.ports.put p { s.port p with rx := .hunting, inFlight := none } } := rfl

@[simp] theorem noticeTaken_port_self : (noticeTaken p s).port p = { s.port p with rx := .hunting, inFlight := none } := by
  simp [noticeTaken]

@[simp] theorem noticeTaken_blocks : (noticeTaken p s).campaign = s.campaign ∧ (noticeTaken p s).supply = s.supply
    ∧ (noticeTaken p s).table = s.table ∧ (noticeTaken p s).cfg = s.cfg ∧ (noticeTaken p s).survey = s.survey
    ∧ (noticeTaken p s).log = s.log ∧ (noticeTaken p s).serial = s.serial := by
  simp [noticeTaken]

theorem moduleNotice_completes {n : Notice} {f : InFlight} (hpower : (s.port p).power.listens = true)
    (hflight : (s.port p).inFlight = some f) (hc : completes f.order.kind n = true) :
    moduleNotice p (some n) s = (completion p f.order n (noticeTaken p s)).map (sendFollowing p) := by
  rw [moduleNotice_some, takeNotice_completes (f := f) (by simpa using hpower) (by simpa using hflight) hc,
    completeOrder, moduleIdle, State.onPort_onPort]
  rfl

theorem moduleNotice_unasked {n : Notice} (hpower : (s.port p).power.listens = true)
    (h : ∀ f, (s.port p).inFlight = some f → completes f.order.kind n = false) :
    moduleNotice p (some n) s = unaskedNotice p n (moduleIdle p s) := by
  rw [moduleNotice_some, takeNotice_unasked (by simpa using hpower) (by simpa using h)]

/-- The next order goes out where its sending changes nothing else. -/
theorem sendFollowing_plain {o : Order} {rest : List Order} (hpower : (s.port p).power = .on)
    (hflight : (s.port p).inFlight = none) (hq : (s.port p).queue = o :: rest) (ho : o.kind.plain = true) :
    sendFollowing p s = s.onPort p fun c => { c with inFlight := some ⟨o, orderTimeout o.kind⟩, queue := rest } := by
  have hsent : sendNext p s =
      s.onPort p fun c => { c with inFlight := some ⟨o, orderTimeout o.kind⟩, queue := rest } := by
    rw [sendNext_cons hpower hflight hq, sendOrder_plain ho, State.onPort_onPort]
  rw [sendFollowing, hsent]
  exact reportChange_same rfl

/-- Settles O40. -/
theorem ordersComplete : Obligations.OrdersComplete := by
  unfold Obligations.OrdersComplete
  refine ⟨fun s p reason who n hpower hflight => ?_, fun s p who n hpower hflight hq hcallback => ?_,
    fun s p m n x result hpower hflight hq hx hdata => ?_⟩
  · have hlistens : (s.port p).power.listens = true := by rcases hpower with h | h <;> simp [h, Power.listens]
    have hexec : exec (.wakeDone p) s = outcomeOf (some (sendFollowing p (wakeCompleted p (.wake reason)
        (noticeTaken p s)))) := by
      have h : exec (.wakeDone p) s = outcomeOf (moduleNotice p (some .wakeDone) s) := rfl
      rw [h, moduleNotice_completes (n := .wakeDone) hlistens hflight rfl]
      rfl
    have hplain : reason ≠ .restart → wakeCompleted p (.wake reason) (noticeTaken p s) =
        s.onPort p fun c => { c with power := .on, restartCount := 0, rx := .hunting, inFlight := none } := fun h => by
      rw [wakeCompleted]
      dsimp only
      rw [if_neg (by simpa using h), noticeTaken, State.onPort_onPort]
    refine ⟨fun hq hreason => ?_, fun sender rest hq hreason => ?_, fun hq hreason => ?_⟩
    · rw [hexec, hplain hreason, sendFollowing_of_rest (by simp [hq]), outcomeOf_some]
      rfl
    · rw [hexec, hplain hreason, sendFollowing_plain (o := ⟨.scan, sender⟩) (rest := rest) (by simp) (by simp)
        (by simp [hq]) rfl, State.onPort_onPort, outcomeOf_some]
      rfl
    · subst hreason
      have hrestarted : wakeCompleted p (.wake .restart) (noticeTaken p s) =
          raise (.port .restarted p .on { (s.port p).attention with restarted := true } 0)
            (s.onPort p fun c => { c with
              power := .on, restartCount := 0, inFlight := none, rx := .hunting,
              attention := { c.attention with restarted := true } }) := by
        rw [wakeCompleted]
        dsimp only
        rw [if_pos rfl, raisePort, noticeTaken, State.onPort_onPort, State.onPort_onPort, State.onPort_port_self]
      rw [hexec, hrestarted, sendFollowing_of_rest (by simp [hq]), outcomeOf_some]
      rfl
  · have hexec : exec (.detachDone p) s = outcomeOf (moduleNotice p (some .detachDone) s) := rfl
    have hgone : attachmentAfter p .none (noticeTaken p s) =
        s.onPort p fun c => { c with attachment := .none, inFlight := none, rx := .hunting } := by
      rw [attachmentAfter_eq (.inr (by simpa using hcallback)), noticeTaken, State.onPort_onPort]
      exact State.onPort_congr (by simp [hq])
    rw [hexec, moduleNotice_completes (n := .detachDone) (by simp [hpower, Power.listens]) hflight rfl, completion,
      hgone, Option.map_some, sendFollowing_of_rest (by simp [hq]), outcomeOf_some]
    rfl
  · have hexec : exec (.dataResult p result) s = outcomeOf (moduleNotice p (some (readData result)) s) := rfl
    have hsettled : takeDataResult x.id (result == 1) (noticeTaken p s) = (noticeTaken p s).onCampaign fun c =>
        { c with attempt := some { x with data := some (if result = 1 then .sent else .failed) } } := by
      simp [takeDataResult, onTry, State.onCampaign, hx, hdata]
    rw [hexec, moduleNotice_completes (n := readData result) (by simp [hpower, Power.listens]) hflight rfl, readData,
      completion]
    simp only [callIdOf, Option.map_some]
    rw [hsettled, sendFollowing_of_rest (by simp [hq]), outcomeOf_some]
    rfl

/-! ## SERVING_LEVEL, REGISTRATION_LOST (06 R124, R128) -/

theorem completes_servingLevel (k : OrderKind) (level quality : Byte) : completes k (.servingLevel level quality) = false := by
  cases k <;> rfl

theorem completes_alert (k : OrderKind) : completes k .alertRegistrationLost = false ∧ completes k .alertFault = false := by
  cases k <;> exact ⟨rfl, rfl⟩

theorem sampleOf_eq (net : NetworkId) (level quality : Byte) : sampleOf net level quality =
    { net := net
      level := max (-140) (min (-44) level.toInt)
      quality := if quality.toInt = 127 then none else some (max (-20) (min 30 quality.toInt)) } := by
  simp [sampleOf, clampInt_eq_max_min]

theorem sampleSlot_seen {slot : TableSlot} {m : Sample} {e : Entry} (he : s.table.entry slot = some e)
    (hseen : e.state = .seen) : sampleSlot slot m s =
      s.onTable fun t => t.putEntry slot (some (e.sampled s.cfg.preferences m)) := by
  simp [sampleSlot, he, hseen]

theorem loseEntry_seen {slot : TableSlot} {e : Entry} (he : s.table.entry slot = some e) (hseen : e.state = .seen) :
    loseEntry slot s =
      raise (.netLost slot) (s.onTable fun t => t.putEntry slot (some { e with state := .lost })) := by
  simp [loseEntry, he, hseen]

theorem loseAndTell_of_no_standby {slot : TableSlot} (h : s.campaign.standby = none) :
    loseAndTell slot s = loseEntry slot s := by
  simp [loseAndTell, h]

/-- Settles O46. -/
theorem connectedPortNotices : Obligations.ConnectedPortNotices := by
  unfold Obligations.ConnectedPortNotices
  refine ⟨fun s p level quality hcall hpower => ?_,
    fun s p net slot e attention hpower hattached hfind he hseen hstandby hcallback hqueue hattention => ?_⟩
  · have hexec : exec (.servingLevel p level quality) s = outcomeOf (some (applyServing p level quality
        (s.onPort p fun c => { c with silenceTimer := some 35, rx := .hunting }))) := by
      have h : exec (.servingLevel p level quality) s =
          outcomeOf (moduleNotice p (some (.servingLevel level quality)) s) := rfl
      rw [h, moduleNotice_unasked (listens_iff.mpr hpower) fun f _ => completes_servingLevel _ _ _, unaskedNotice,
        unaskedServing, if_pos (by simpa using hcall), moduleIdle, State.onPort_onPort]
    refine ⟨fun hother => ?_, fun slot e hport hentry he hseen => ?_⟩
    · have hkept : applyServing p level quality (s.onPort p fun c => { c with silenceTimer := some 35, rx := .hunting })
          = s.onPort p fun c => { c with silenceTimer := some 35, rx := .hunting } := by
        unfold applyServing
        split
        · rfl
        next slot hslot =>
          rw [if_neg]
          rcases hother with h | h
          · exact h
          · simp [h] at hslot
      rw [hexec, hkept, outcomeOf_some]
      rfl
    · have hsampled : applyServing p level quality (s.onPort p fun c => { c with silenceTimer := some 35, rx := .hunting })
          = (s.onPort p fun c => { c with silenceTimer := some 35, rx := .hunting }).onTable fun t =>
            t.putEntry slot (some (e.sampled s.cfg.preferences (sampleOf e.net level quality))) := by
        simp only [applyServing, State.onPort_campaign, hentry, hport, if_true, State.onPort_table, he]
        exact sampleSlot_seen he hseen
      rw [hexec, hsampled, sampleOf_eq, outcomeOf_some]
      rfl
  · have hexec : exec (.moduleAlertRegistrationLost p) s = outcomeOf (moduleNotice p (some .alertRegistrationLost) s) := rfl
    have hnamed : namedByAlert (moduleIdle p s) p = some slot := by simp [namedByAlert, hattached, hfind]
    have hnone : (s.port p).queue.any Order.registers = false := by
      rw [List.any_eq_false]
      exact fun o ho => by simp [hqueue o ho]
    rw [hexec, moduleNotice_unasked (listens_iff.mpr hpower) fun f _ => (completes_alert _).1, unaskedNotice,
      registrationLost]
    simp only [hnamed]
    rw [loseAndTell_of_no_standby (by simpa using hstandby), loseEntry_seen (e := e) (by simpa using he) hseen,
      attachmentAfter_eq (.inr (by simpa using hcallback)), raise_onPort, raise_onPort, State.onPort_onPort, raisePort]
    have hafter : (((moduleIdle p s).onTable fun t => t.putEntry slot (some { e with state := .lost })).onPort p fun c =>
          { c with
            attachment := if c.queue.any Order.registers then c.attachment else .none
            attention := { c.attention with registrationLost := true } }) =
        (s.onTable fun t => t.putEntry slot (some { e with state := .lost })).onPort p fun c => { c with
          attachment := .none, attention := attention, rx := .hunting } := by
      have hcommute : (moduleIdle p s).onTable (fun t => t.putEntry slot (some { e with state := .lost })) =
          (s.onTable fun t => t.putEntry slot (some { e with state := .lost })).onPort p fun c =>
            { c with rx := .hunting } := rfl
      rw [hcommute, State.onPort_onPort]
      exact State.onPort_congr (by simp [hnone, hattention])
    rw [hafter, outcomeOf_some, raise_port, State.onPort_port_self]
    rfl

end Sys2Proof.Machine
end

section
/-! The loss of a port the campaign does not use: its failure (06 R129, R132) and its disabling (06 R137); the other
requests to ports (06 R138, 08 R165). -/

namespace Sys2Proof.Machine

variable {s : State} {p : Port}

/-! ## Entries that become LOST (01 R4) -/

/-- A LOST entry stays what it is, so losing an entry makes any entry of the slot LOST. -/
theorem loseEntry_table (slot : TableSlot) (s : State) :
    (loseEntry slot s).table = s.table.onEntry slot fun e => { e with state := .lost } := by
  refine NetTable.ext_entry (fun i => ?_) ?_
  · rw [NetTable.entry_onEntry]
    unfold loseEntry
    cases he : s.table.entry slot with
    | none =>
      dsimp only
      split
      next h => rw [h, he]; rfl
      next => rfl
    | some e =>
      dsimp only
      split
      · simp [NetTable.entry_putEntry]
      next hlost =>
        have hstate : e.state = .lost := by cases h : e.state <;> simp_all
        split
        next h => rw [h, he, Option.map_some, ← hstate]
        next => rfl
  · unfold loseEntry
    cases s.table.entry slot with
    | none => rfl
    | some e =>
      dsimp only
      split <;> simp

theorem eachSlot_lose_entry (slots : List TableSlot) (s : State) (i : TableSlot) :
    (eachSlot loseEntry slots s).table.entry i =
      (s.table.entry i).map fun e => if i ∈ slots then { e with state := .lost } else e := by
  induction slots generalizing s with
  | nil => simp [eachSlot]
  | cons slot rest ih =>
    rw [eachSlot, ih, loseEntry_table, NetTable.entry_onEntry]
    by_cases h : i = slot
    · subst h
      simp only [if_true, Option.map_map, List.mem_cons, true_or]
      congr 1
      funext e
      simp
    · simp [h]

/-- Every SEEN entry of a lost port is LOST then. -/
theorem losePort_entry (p : Port) (s : State) (i : TableSlot) : (losePort p s).table.entry i =
    (s.table.entry i).map fun e => if e.port = p ∧ e.state = .seen then { e with state := .lost } else e := by
  rw [losePort, eachSlot_lose_entry]
  cases he : s.table.entry i with
  | none => rfl
  | some e =>
    have hmem : i ∈ s.table.slotsWhere (fun e => e.state == .seen && e.port == p) ↔ e.port = p ∧ e.state = .seen := by
      rw [NetTable.mem_slotsWhere]
      simp [he, and_comm]
    simp only [Option.map_some, hmem]

/-! ## A port the campaign does not use -/

theorem tellDropped_eq (p : Port) (orders : List Order) (s : State) :
    ∃ survey, tellDropped p orders s = { s with survey := survey } := by
  induction orders generalizing s with
  | nil => exact ⟨s.survey, rfl⟩
  | cons o rest ih =>
    unfold tellDropped
    split
    · unfold surveyScanEnds
      split
      · obtain ⟨survey, h⟩ := ih (s.onSurvey fun v => { v with records := v.records.put p .dropped })
        exact ⟨survey, h⟩
      · exact ih s
    all_goals exact ih s

/-- A port with nothing queued, in flight, in a call or attached. -/
def PortContext.emptied (c : PortContext) : PortContext :=
  { c with attachment := .none, call := .none, silenceTimer := none, inFlight := none, queue := [] }

theorem portDown_eq (hroute : s.campaign.route ≠ some p) (hcallback : s.campaign.callbackPort ≠ some p) :
    ∃ survey, portDown p s = { s.onPort p PortContext.emptied with survey := survey } := by
  obtain ⟨survey, hdropped⟩ := tellDropped_eq p (((s.port p).inFlight.map InFlight.order).toList ++ (s.port p).queue)
    (s.onPort p fun c => { c with inFlight := none, queue := [] })
  refine ⟨survey, ?_⟩
  unfold portDown dropOrders
  dsimp only
  rw [hdropped, setCall_port (.inr (.inl rfl)) (by exact hroute), setAttachment_eq (.inr (by exact hcallback))]
  simp [State.onPort, PortContext.emptied, silenceAfter]

theorem PortUnused.parts (h : PortUnused s p) : (∀ x, s.campaign.attempt = some x → x.port ≠ some p)
    ∧ isStandbyPort s p = false ∧ s.campaign.callbackPort ≠ some p ∧ isAwaited s p = false
    ∧ s.campaign.route ≠ some p := by
  obtain ⟨huse, hroute⟩ := h
  simp only [inCampaignUse, Bool.or_eq_false_iff] at huse
  obtain ⟨⟨⟨⟨htry, -⟩, hstandby⟩, hcallback⟩, hawaited⟩ := huse
  exact ⟨fun x hx hport => by simp [hx, hport] at htry, hstandby, by simpa using hcallback, hawaited, hroute⟩

theorem campaignPortLost_unused (h : PortUnused s p) : campaignPortLost p s = some s := by
  obtain ⟨htry, hstandby, hcallback, hawaited, -⟩ := h.parts
  have hend : endLostTry p s = some s := by
    unfold endLostTry
    split
    · rfl
    next x hx => rw [if_neg (htry x hx)]
  rw [campaignPortLost, hend, Option.bind_some]
  simp only [hstandby, Bool.false_eq_true, if_false]
  rw [dropCallbackPort, if_neg hcallback, leaveAwaited, if_neg (by simp [hawaited])]

/-- What the loss of an unused port leaves of the state: the port is emptied, its SEEN entries are LOST. -/
structure PortGone (p : Port) (s u : State) : Prop where
  port : u.port p = (s.port p).emptied
  others : ∀ q, q ≠ p → u.port q = s.port q
  table : ∀ slot, u.table.entry slot = (s.table.entry slot).map fun e =>
    if e.port = p ∧ e.state = .seen then { e with state := .lost } else e
  campaign : u.campaign = s.campaign
  log : u.log = s.log
  supply : u.supply = s.supply
  outside : u.outside = s.outside
  outbound : s.link.outbound <+: u.link.outbound

theorem portLost_unused (h : PortUnused s p) :
    ∃ u, campaignPortLost p (losePort p (portDown p s)) = some u ∧ PortGone p s u := by
  obtain ⟨-, -, hcallback, -, hroute⟩ := h.parts
  obtain ⟨survey, hdown⟩ := portDown_eq hroute hcallback
  refine ⟨losePort p (portDown p s), campaignPortLost_unused ?_, ?_⟩
  · have hc : (losePort p (portDown p s)).campaign = s.campaign := by
      rw [(losePort_frame _ _).2.2.1, hdown]
      rfl
    simpa only [PortUnused, inCampaignUse, isStandbyPort, isAwaited, hc] using h
  · rw [hdown]
    refine ⟨?_, fun q hq => ?_, losePort_entry p _, ?_, ?_, ?_, ?_, ?_⟩
    · simp [State.port]
    · simp only [State.port, losePort_frame]
      exact PerPort.get_put_of_ne _ _ hq
    · simp
    · simp
    · simp
    · rw [(losePort_frame _ _).1]
      rfl
    · exact (losePort_grows p { s.onPort p PortContext.emptied with survey := survey }).kept

/-- The entry to FAULT or DEAD of an unused port (06 R129). -/
theorem enterFault_unused {dead : Bool} {cause : FaultCause} (h : PortUnused s p) :
    ∃ u : State, enterFault p dead cause s = some (raise (.port (if dead then .dead cause else .fault cause) p
        (u.port p).power (u.port p).attention (u.port p).restartCount) u)
      ∧ u.port p =
          { power := if dead then .dead else .fault
            attachment := .none
            call := .none
            inFlight := none
            queue := []
            attention := { (s.port p).attention with moduleFault := true }
            restartCount := (s.port p).restartCount
            restartTimer := if dead then none else some 30
            silenceTimer := none
            rx := (s.port p).rx
            tickDue := false }
      ∧ (∀ q, q ≠ p → u.port q = s.port q)
      ∧ (∀ slot, u.table.entry slot = (s.table.entry slot).map fun e =>
          if e.port = p ∧ e.state = .seen then { e with state := .lost } else e)
      ∧ u.campaign = s.campaign ∧ u.log = s.log ∧ u.supply = s.supply ∧ u.outside = s.outside
      ∧ s.link.outbound <+: u.link.outbound := by
  obtain ⟨u, hu, hgone⟩ := portLost_unused (s := s.onPort p fun c =>
    { c with power := if dead then .dead else .fault, tickDue := false }) (by exact h)
  refine ⟨u.onPort p fun c => { c with
      attention := { c.attention with moduleFault := true }
      restartTimer := if dead then none else some 30 }, ?_, ?_, fun q hq => ?_, hgone.table, hgone.campaign, hgone.log,
    hgone.supply, hgone.outside, hgone.outbound⟩
  · rw [enterFault]
    dsimp only
    rw [hu]
    rfl
  · rw [State.onPort_port_self, hgone.port]
    simp [PortContext.emptied]
  · rw [State.onPort_port_of_ne _ _ hq, hgone.others q hq, State.onPort_port_of_ne _ _ hq]

/-- Settles O12. -/
theorem portFails : Obligations.PortFails := by
  unfold Obligations.PortFails
  intro s p c cause count rx hunused hc
  rcases hc with ⟨rfl, rfl, rfl, rfl, f, hflight, htimer, hsleep, hwake⟩ | ⟨rfl, rfl, rfl, rfl, htimer⟩
    | ⟨rfl, rfl, rfl, rfl, hpower⟩ | ⟨rfl, rfl, rfl, rfl, f, reason, hflight, htimer, hwake⟩
  · have hdue : isDue s (.orderTimeout p) = true := by
      have hkind : f.order.kind.isWake = false ∧ f.order.kind.isSleep = false := by
        cases hk : f.order.kind <;> first
          | exact ⟨rfl, rfl⟩
          | exact absurd hk hsleep
          | exact absurd hk (hwake _)
      simp [isDue, timedOut, hflight, htimer, hkind]
    obtain ⟨u, hu, hport, hrest⟩ := enterFault_unused (dead := false) (cause := .timeout) hunused
    refine ⟨u, ?_, by simpa using hport, hrest⟩
    simp only [exec, execOrderTimeout, takeIfDue_of_due hdue, takeDue, hu, outcomeOf_some]
    simp
  · have hdue : isDue s (.silenceTimeout p) = true := by simp [isDue, htimer]
    obtain ⟨u, hu, hport, hrest⟩ := enterFault_unused (dead := false) (cause := .silent) hunused
    refine ⟨u, ?_, by simpa using hport, hrest⟩
    simp only [exec, execSilenceTimeout, takeIfDue_of_due hdue, takeDue, hu, outcomeOf_some]
    simp
  · have hexec : exec (.moduleAlertFault p) s = outcomeOf (enterFault p false .moduleFault (moduleIdle p s)) := by
      have h : exec (.moduleAlertFault p) s = outcomeOf (moduleNotice p (some .alertFault) s) := rfl
      rw [h, moduleNotice_unasked (listens_iff.mpr hpower) fun f _ => (completes_alert _).2, unaskedNotice]
    obtain ⟨u, hu, hport, hothers, htable, hrest⟩ := enterFault_unused (s := moduleIdle p s) (dead := false)
      (cause := .moduleFault) (by exact hunused)
    refine ⟨u, ?_, by simpa using hport, fun q hq => ?_, htable, hrest⟩
    · rw [hexec, hu, outcomeOf_some]
      simp
    · rw [hothers q hq]
      exact State.onPort_port_of_ne _ _ hq
  · have hdue : isDue s (.wakeTimeout p) = true := by simp [isDue, timedOut, hflight, htimer, hwake, OrderKind.isWake]
    have hcount : countUp 3 (s.port p).restartCount = min 3 ((s.port p).restartCount + 1) := countUp_eq_min
    have hdead : (3 ≤ min 3 ((s.port p).restartCount + 1)) ↔ min 3 ((s.port p).restartCount + 1) = 3 := by omega
    obtain ⟨u, hu, hport, hothers, htable, hrest⟩ := enterFault_unused
      (s := s.onPort p fun c => { c with restartCount := countUp 3 c.restartCount })
      (dead := decide (3 ≤ min 3 ((s.port p).restartCount + 1))) (cause := .timeout) (by exact hunused)
    refine ⟨u, ?_, ?_, fun q hq => ?_, htable, hrest⟩
    · have hexec : exec (.wakeTimeout p) s = outcomeOf (wakeTimesOut p s) := by
        simp only [exec, execWakeTimeout, takeIfDue_of_due hdue, takeDue]
      have htimed : wakeTimesOut p s = enterFault p (decide (3 ≤ min 3 ((s.port p).restartCount + 1))) .timeout
          (s.onPort p fun c => { c with restartCount := countUp 3 c.restartCount }) := by
        rw [wakeTimesOut, State.onPort_port_self, hcount]
      rw [hexec, htimed, hu, outcomeOf_some]
      simp only [hdead, decide_eq_true_eq, true_and]
    · rw [hport]
      simp only [State.onPort_port_self, hdead, hcount, decide_eq_true_eq, true_and]
    · rw [hothers q hq]
      exact State.onPort_port_of_ne _ _ hq

/-! ## PORT_CONTROL (06 R137, R138) -/

theorem portOfNat?_portNumber (p : Port) : portOfNat? (portNumber p) = some p := by cases p <;> rfl

theorem portOfNat?_of_gt {n : Nat} (h : 3 < n) : portOfNat? n = none := by
  unfold portOfNat?
  split <;> first | rfl | omega

/-- The disabling of an unused port (06 R137). -/
theorem disablePort_unused (hpower : (s.port p).power ≠ .disabled) (h : PortUnused s p) :
    ∃ u : State, disablePort p s = some
        (raise (.port .disabled p .disabled (s.port p).attention (s.port p).restartCount) u)
      ∧ PortGone p ((s.onConfig fun g => { g with enables := g.enables.put p false }).onPort p fun c =>
        { c with power := .disabled, restartTimer := none, tickDue := false }) u := by
  obtain ⟨u, hu, hgone⟩ := portLost_unused (s := (s.onConfig fun g =>
    { g with enables := g.enables.put p false }).onPort p fun c =>
      { c with power := .disabled, restartTimer := none, tickDue := false }) (by exact h)
  refine ⟨u, ?_, hgone⟩
  rw [disablePort, if_neg hpower]
  dsimp only
  rw [hu, Option.map_some, raisePort, hgone.port, State.onPort_port_self]
  rfl

/-- Settles O36. -/
theorem portControl : Obligations.PortControl := by
  unfold Obligations.PortControl
  intro s p n hready hn
  have hp : portOfNat? n.toNat = some p := hn ▸ portOfNat?_portNumber p
  have hdisable : exec (.portControlDisable n) s =
      outcomeOf (disablePort p (placeReply 0x92 .ok (.portPower .disabled) (lineIdle s))) := by
    refine (exec_ready (r := .portControlDisable n) hready rfl (by simp)).trans ?_
    simp only [handle, handleDisable, hp]
    rfl
  refine ⟨fun hpower => ?_, fun hpower hunused => ?_, fun hfitted => ⟨fun hpower => ?_, fun hpower hdead => ?_⟩,
    fun hfitted => ?_, fun m hm => ⟨?_, ?_⟩⟩
  · rw [hdisable, disablePort, if_pos (by simpa using hpower), outcomeOf_some]
  · obtain ⟨u, hu, hgone⟩ := disablePort_unused
      (s := placeReply 0x92 .ok (.portPower .disabled) (lineIdle s)) (p := p) (by simpa using hpower)
      (by simpa [PortUnused, inCampaignUse, isStandbyPort, isAwaited] using hunused)
    have hcfg : u.cfg = _ := congrArg Prod.fst hgone.outside
    have hstore : u.store = _ := congrArg (fun x => x.2.1) hgone.outside
    refine ⟨u, ?_, ?_, fun q hq => ?_, ?_, fun slot => ?_, ?_, ?_, ?_, ?_, hgone.outbound⟩
    · rw [hdisable, hu, outcomeOf_some]
      simp
    · rw [hgone.port, State.onPort_port_self]
      simp [PortContext.emptied, PortContext.afterReset]
    · rw [hgone.others q hq, State.onPort_port_of_ne _ _ hq]
      simp
    · rw [hcfg]
      simp [State.outside, State.onConfig]
    · rw [hgone.table slot]
      simp
    · rw [hgone.campaign]
      simp
    · rw [hgone.log]
      simp
    · rw [hgone.supply]
      simp
    · rw [hstore]
      simp [State.outside]
  · refine (exec_ready (r := .portControlEnable n) hready rfl (by simp)).trans ?_
    have hboard : (lineIdle s).board.fitted.get p = true := by simpa using hfitted
    have hoff : ((lineIdle s).port p).power = .disabled ∨ ((lineIdle s).port p).power = .dead := by simpa using hpower
    simp only [handle, handleEnable, hp, hboard, hoff, if_true, raisePort, placeReply_port]
    simp only [enablePort, State.onPort_port_self, outcomeOf_some]
    rfl
  · refine exec_answered (r := .portControlEnable n) hready rfl (by simp) ?_
    have hboard : (lineIdle s).board.fitted.get p = true := by simpa using hfitted
    have hon : ¬(((lineIdle s).port p).power = .disabled ∨ ((lineIdle s).port p).power = .dead) := by
      simp [hpower, hdead]
    simp only [handle, handleEnable, hp, hboard, hon, if_true, if_false]
    rfl
  · refine exec_answered (r := .portControlEnable n) hready rfl (by simp) ?_
    have hboard : ¬(lineIdle s).board.fitted.get p = true := by simp [hfitted]
    simp only [handle, handleEnable, hp, if_neg hboard]
    rfl
  · refine exec_answered (r := .portControlDisable m) hready rfl (by simp) ?_
    simp only [handle, handleDisable, portOfNat?_of_gt hm]
    rfl
  · refine exec_answered (r := .portControlEnable m) hready rfl (by simp) ?_
    simp only [handle, handleEnable, portOfNat?_of_gt hm]
    rfl

/-! ## SURVEY_NOW (08 R165) -/

theorem ScanTaken.congr {t : State} {o : Order} {after : PortContext} (h : ScanTaken s p o after)
    (hport : t.port p = s.port p) (hcallback : t.campaign.callbackPort = s.campaign.callbackPort) :
    ScanTaken t p o after := by
  unfold ScanTaken at *
  rw [hport, hcallback]
  exact h

theorem answerFor_congr {t : State} {o : Order} (hport : t.port p = s.port p) (hhalt : t.supply.halt = s.supply.halt) :
    answerFor p o t = answerFor p o s := by
  unfold answerFor
  rw [hport, hhalt]

/-- What a port answers to the SCAN of a SURVEY_NOW, and its context then. -/
def SurveyAnswered (s : State) (p : Port) (answer : SubmitAnswer) (after : PortContext) : Prop :=
  (answer = .accepted ∧ s.supply.halt = false ∧ ScanTaken s p ⟨.scan, .host⟩ after)
    ∨ (answer ≠ .accepted ∧ answerFor p ⟨.scan, .host⟩ s = answer)

theorem SurveyAnswered.answerFor_eq {answer : SubmitAnswer} {after : PortContext} (h : SurveyAnswered s p answer after) :
    answerFor p ⟨.scan, .host⟩ s = answer := by
  rcases h with ⟨rfl, hhalt, htaken⟩ | ⟨-, h⟩
  · exact htaken.accepted hhalt
  · exact h

theorem SurveyAnswered.submit_eq {answer : SubmitAnswer} {after : PortContext} (h : SurveyAnswered s p answer after) :
    submit p ⟨.scan, .host⟩ s = s.onPort p fun c => if answer = .accepted then after else c := by
  rw [submit, h.answerFor_eq]
  rcases h with ⟨rfl, hhalt, htaken⟩ | ⟨hne, -⟩
  · simpa using htaken.acceptOrder_eq
  · rw [if_neg hne]
    exact (State.onPort_id (by simp [hne])).symm

/-- The set byte of four named ports. -/
theorem portSetOf_named (a b c d : Bool) :
    ((if a then 1 else 0) ||| (if b then 2 else 0) ||| (if c then 4 else 0) ||| (if d then 8 else 0) : Byte).toNat < 16
      ∧ portSetOf ((if a then 1 else 0) ||| (if b then 2 else 0) ||| (if c then 4 else 0) ||| (if d then 8 else 0))
        = ⟨a, b, c, d⟩ := by
  revert a b c d
  decide

/-- Settles O30. -/
theorem surveyOnRequest : Obligations.SurveyOnRequest := by
  unfold Obligations.SurveyOnRequest
  refine fun s ports hready => ⟨fun hbad => ?_, fun named answer after hports hanswered => ?_⟩
  · refine exec_answered (r := .surveyNow ports) hready rfl (by simp) ?_
    simp only [handle, handleSurveyNow, if_pos hbad]
    rfl
  · obtain ⟨hlt, hset⟩ := portSetOf_named (named .p0) (named .p1) (named .p2) (named .p3)
    rw [← hports] at hlt hset
    have hget : ∀ p, (portSetOf ports).get p = named p := fun p => by
      rw [hset]
      cases p <;> rfl
    have hall : ∀ p, named p = true → SurveyAnswered s p (answer p) (after p) := by
      intro p hp
      rcases hanswered p hp with ⟨⟨hpower, hflight, hq, hhalt⟩, ha, hafter⟩ | ⟨hpower, hhalt, hq, hcallback, ha, hafter⟩
        | ⟨hbusy, hhalt, hroom, ha, hafter⟩ | ⟨hpower, ha⟩ | ⟨hpower, hhalt, hfull, ha⟩
      · exact .inl ⟨ha, hhalt, .inl ⟨hpower, hflight, hq, hafter⟩⟩
      · exact .inl ⟨ha, hhalt, .inr (.inl ⟨hpower, hq, hcallback, hafter⟩)⟩
      · exact .inl ⟨ha, hhalt, .inr (.inr ⟨hbusy, hroom, hafter⟩)⟩
      · refine .inr ⟨by simp [ha], ?_⟩
        rw [ha]
        refine answerFor_unavailable ?_
        rcases hpower with h | h | h | h
        · exact .inl (by simp [h, Power.usable])
        · exact .inl (by simp [h, Power.usable])
        · exact .inl (by simp [h, Power.usable])
        · exact .inr h
      · refine .inr ⟨by simp [ha], ?_⟩
        rw [ha]
        refine answerFor_queueFull ?_ hhalt hfull rfl
        rcases hpower with h | h | h <;> simp [h, Power.usable]
    have hsubmitted : surveyNamed (portSetOf ports) (lineIdle s) = { lineIdle s with
        ports := PerPort.build fun p => if named p && answer p == .accepted then after p else s.port p } := by
      refine eachPort_eq_build fun p v hv => ?_
      rw [surveyPort, hget]
      cases hp : named p with
      | false =>
        rw [if_neg (by simp)]
        simp only [Bool.false_and, Bool.false_eq_true, if_false]
        rw [show s.port p = v.get p from hv.symm, PerPort.put_get]
      | true =>
        have hmoved : SurveyAnswered { lineIdle s with ports := v } p (answer p) (after p) := by
          rcases hall p hp with ⟨ha, hhalt, htaken⟩ | ⟨ha, hanswer⟩
          · exact .inl ⟨ha, by simpa using hhalt, htaken.congr hv (by simp)⟩
          · exact .inr ⟨ha, hanswer ▸ answerFor_congr hv (by simp)⟩
        rw [if_pos rfl, hmoved.submit_eq]
        simp only [Bool.true_and, beq_iff_eq, State.onPort, hv]
        rfl
    have hcontents : ∀ p, surveyAnswer (portSetOf ports) (lineIdle s) p = if named p then some (answer p) else none := by
      intro p
      rw [surveyAnswer, hget]
      cases hp : named p with
      | false => rfl
      | true =>
        have hport : answerFor p ⟨.scan, .host⟩ (lineIdle s) = answer p := (hall p hp).answerFor_eq
        simp [hport]
    refine exec_answered (r := .surveyNow ports) hready rfl (by simp) ?_
    simp only [handle, handleSurveyNow, if_neg (Nat.not_le.mpr hlt), hsubmitted, hcontents, answered]
    congr 2
    · congr 1
      funext p
      cases named p <;> simp
    · unfold refusals
      refine congrArg (fun f => List.filterMap f portList) (funext fun p => ?_)
      simp only [hcontents]
      cases named p
      · rfl
      · cases answer p <;> rfl

end Sys2Proof.Machine
end

section
/-! Notices of the campaign's ports: registrations (03 R61, 04 R86), call progress (03 R62, R68, R78), incoming calls
(03 R75 to R77). -/

namespace Sys2Proof.Machine

variable {s : State} {p : Port}

/-! ## The DIAL of a try (03 R60, R61) -/

/-- A free port dials for the current try. -/
theorem dialTry_free {x : CurrentTry} (hx : s.campaign.attempt = some x) (hfree : PortFree s p)
    (hstandby : (s.port p).call ≠ .none ∨ isStandbyPort s p = false) (hroute : s.campaign.route ≠ some p) :
    dialTry x p s = (.rest, { s with
      campaign := { s.campaign with state := .dial, attempt := some { x with stage := .dialing } }
      ports := s.ports.put p { s.port p with
        call := .dialing
        silenceTimer := none
        inFlight := some ⟨⟨.dial x.digits, .campaign (.attempt x.id)⟩, 40⟩ } }) := by
  obtain ⟨hpower, hflight, hq, hhalt⟩ := hfree
  unfold dialTry
  dsimp only
  rw [if_pos (answerFor_accepted (by simp [hpower, Power.usable]) hhalt (.inl (by simp [hq]))),
    acceptOrder_free (by exact hpower) (by exact hflight) (by exact hq), sendOrder_call (new := .dialing) rfl,
    State.onPort_onPort, setCall_port, State.onPort_onPort]
  · simp only [onTry, State.onCampaign, hx]
    rfl
  · rcases hstandby with h | h
    · exact .inl (by simpa [onTry] using h)
    · exact .inr (.inr h)
  · exact hroute

/-! ## ATTACH_RESULT (03 R61, 04 R86) -/

/-- The state an ATTACH's answer leaves for what it serves: the attachment as answered. -/
theorem attachmentAfter_answered {a : Attachment} (hq : (s.port p).queue = [])
    (h : a ≠ .none ∨ s.campaign.callbackPort ≠ some p) : attachmentAfter p a (noticeTaken p s) =
      s.onPort p fun c => { c with rx := .hunting, inFlight := none, attachment := a } := by
  rw [attachmentAfter_eq (by simpa using h), noticeTaken, State.onPort_onPort]
  exact State.onPort_congr (by simp [hq])

/-- An ATTACH_RESULT that answers the campaign's ATTACH on a port with nothing queued. -/
theorem moduleNotice_attachResult {slot : TableSlot} {net : NetworkId} {purpose : Purpose} {n : Nat} {ok : Bool}
    {cause : Byte} (hpower : (s.port p).power = .on) (hq : (s.port p).queue = [])
    (hflight : (s.port p).inFlight = some ⟨⟨.attach slot net, .campaign purpose⟩, n⟩)
    (h : ok = true ∨ s.campaign.callbackPort ≠ some p) :
    moduleNotice p (some (.attachResult ok cause)) s = (takeAttached purpose ok cause (s.onPort p fun c =>
      { c with rx := .hunting, inFlight := none, attachment := if ok then .attached net else .none })).map
        (sendFollowing p) := by
  rw [moduleNotice_completes (n := .attachResult ok cause) (by simp [hpower, Power.listens]) hflight rfl]
  simp only [completion, attachCompleted]
  rw [attachmentAfter_answered hq (by cases ok <;> simp_all)]

/-- Settles O42. -/
theorem attachAnswered : Obligations.AttachAnswered := by
  unfold Obligations.AttachAnswered
  refine ⟨fun s p x slot net n cause hstate hx hstage hport hcancel hstandby hroute hpower hcall hq hhalt hflight => ?_,
    fun s p b net n result cause hb hport hcallback hpower hq hflight => ?_⟩
  · have hexec : exec (.attachResult p 1 cause) s = outcomeOf (moduleNotice p (some (.attachResult true cause)) s) := rfl
    have hdial := dialTry_free (s := s.onPort p fun c =>
      { c with rx := .hunting, inFlight := none, attachment := .attached net }) (p := p) (x := x) (by exact hx)
      ⟨by simp [hpower], by simp, by simp [hq], hhalt⟩ (.inr (by simp [isStandbyPort, hstandby])) (by simp [hroute])
    rw [hexec, moduleNotice_attachResult hpower hq hflight (.inl rfl), takeAttached,
      if_pos (by simp [hx, hstage])]
    simp only [tryAttached, State.onPort_campaign, hx, hport, hcancel, if_true, Bool.false_eq_true, if_false, hdial,
      runChain_rest, Option.map_some]
    rw [reportChange_moved (stateKey_ne_of_state (by simp [hstate])) (by simp),
      sendFollowing_of_rest (by simp [State.port]), outcomeOf_some]
    simp [hroute]
  · have hexec : exec (.attachResult p result cause) s =
        outcomeOf (moduleNotice p (some (.attachResult (result == 1) cause)) s) := rfl
    have hserved : ∀ f, takeAttached (.standby b.id) (result == 1) cause (s.onPort p f) =
        some (standbyAttached (result == 1) (s.onPort p f)) := by
      intro f
      rw [takeAttached, if_pos (by simp [hb])]
    rw [hexec, moduleNotice_attachResult hpower hq hflight (.inr hcallback), hserved, Option.map_some]
    refine ⟨fun hresult => ?_, fun hresult => ?_⟩
    · have hok : (result == 1) = true := by simp [hresult]
      simp only [hok, standbyAttached, State.onPort_campaign, hb, if_true, raiseStandby]
      rw [sendFollowing_of_rest (by simp [hq]), outcomeOf_some, hport]
      rfl
    · have hfailed : (result == 1) = false := beq_eq_false_iff_ne.mpr hresult
      simp only [hfailed, standbyAttached, State.onPort_campaign, hb, Bool.false_eq_true, if_false]
      rw [clearStandby_some (b := b) (by simp [hb]),
        sendFollowing_of_rest (.inl (by rw [raise_port]; simpa [State.port] using hq)), outcomeOf_some, hport]
      rfl

/-! ## CALL_PROGRESS (03 R62, R68, R78) -/

theorem seekStandby_disabled (h : s.cfg.tuning.standbyEnable = false) : seekStandby s = s := by
  simp [seekStandby, seeksStandby, h]

/-- The data message goes out over a free port where the destination asks for one (03 R69). -/
theorem sendDataOf_free {x : CurrentTry} {y : CurrentTry} (hy : s.campaign.attempt = some y) (hfree : PortFree s p) :
    sendDataOf x p s = { s with
      campaign := { s.campaign with
        attempt := some { y with data := if x.dataFlag then some .pending else y.data } }
      ports := s.ports.put p { s.port p with
        inFlight := if x.dataFlag then
          some ⟨⟨.sendData (dataMessage x s), .campaign (.call x.id)⟩, 20⟩ else none } } := by
  obtain ⟨hpower, hflight, hq, hhalt⟩ := hfree
  cases hflag : x.dataFlag with
  | false =>
    have hport : { s.port p with inFlight := none } = s.ports.get p := by
      rw [← hflight]
      rfl
    simp only [sendDataOf, hflag, Bool.false_eq_true, if_false, hport, PerPort.put_get]
    rw [← hy]
  | true =>
    unfold sendDataOf
    rw [if_pos hflag]
    dsimp only
    rw [if_pos (answerFor_accepted (by simp [hpower, Power.usable]) hhalt (.inl (by simp [hq]))),
      acceptOrder_free (by exact hpower) (by exact hflight) (by exact hq), sendOrder_plain rfl, State.onPort_onPort]
    simp only [onTry, State.onCampaign, hy]
    rfl

/-- CONNECTED of a dialled try whose port is connected now (03 R68, 04 R92). -/
theorem tryConnected_dialed {x : CurrentTry} {slot : TableSlot} {phase : Option Phase}
    (hx : s.campaign.attempt = some x) (hport : x.port = some p) (hstage : x.stage = .dialing ∨ x.stage = .ringing)
    (hentry : x.entry = some slot) (hstate : s.campaign.state ≠ .talk)
    (hrecovery : (s.campaign.recovery = none ∧ phase = s.campaign.phase)
      ∨ ∃ r, s.campaign.recovery = some r ∧ phase = some (if r.toLastResort then .lastResort else .plan))
    (hfree : PortFree s p) (hcall : (s.port p).call = .connected) (hstandby : s.cfg.tuning.standbyEnable = false) :
    tryConnected p s = raise (.state .talk phase s.campaign.origin x.number (some p) none)
      { s with
        table := s.table.onEntry slot fun e =>
          { rescore s.cfg.preferences { e with failures := 0 } with holds := { e.holds with call := true } }
        campaign := { s.campaign with
          state := .talk
          phase := phase
          recovery := none
          ringTimer := none
          callEntry := some slot
          callPort := some p
          route := some p
          attempt := some { x with
            stage := .connected
            talk := some 0
            data := if x.dataFlag then some .pending else x.data } }
        ports := s.ports.put p { s.port p with
          inFlight := if x.dataFlag then
            some ⟨⟨.sendData (dataMessage x s), .campaign (.call x.id)⟩, 20⟩ else none } } := by
  have hon : tryOn s p [.dialing, .ringing] = true := by
    rcases hstage with h | h <;> simp [tryOn, hx, hport, h]
  have hconnect : connectTry slot p s =
      { s with
        table := s.table.onEntry slot fun e =>
          { rescore s.cfg.preferences { e with failures := 0 } with holds := { e.holds with call := true } }
        campaign := { s.campaign with
          state := .talk
          phase := phase
          recovery := none
          ringTimer := none
          callEntry := some slot
          callPort := some p
          route := some p
          attempt := some { x with stage := .connected, talk := some 0 } } } := by
    have htable : (s.table.onEntry slot fun e => rescore s.cfg.preferences { e with failures := 0 }).onEntry slot
        (fun e => { e with holds := e.holds.put .call true }) = s.table.onEntry slot fun e =>
          { rescore s.cfg.preferences { e with failures := 0 } with holds := { e.holds with call := true } } :=
      NetTable.onEntry_onEntry _ _ _ _
    unfold connectTry endRecovery
    simp only [grantHold, tellConnected, onTry, State.onCampaign, State.onTable, htable, hx, connectedRoute, hcall,
      if_true, Option.map_some]
    rcases hrecovery with ⟨hnone, rfl⟩ | ⟨r, hr, rfl⟩
    · simp [hnone]
    · simp [hr]
  unfold tryConnected
  simp only [hx, hon, if_true, hentry]
  rw [hconnect, reportChange_moved (stateKey_ne_of_state (by simpa using hstate.symm)) (by simp),
    sendDataOf_free (y := { x with stage := .connected, talk := some 0 }) (by simp) (by
      obtain ⟨hpower, hflight, hq, hhalt⟩ := hfree
      exact ⟨by simpa [State.port] using hpower, by simpa [State.port] using hflight, by simpa [State.port] using hq,
        by simpa using hhalt⟩), seekStandby_disabled (by simpa using hstandby)]
  simp only [raise_eq, ← hentry]
  rfl

/-- CONNECTED of an answered call whose port is connected now (03 R78). -/
theorem tryConnected_answered {x : CurrentTry} (hx : s.campaign.attempt = some x) (hport : x.port = some p)
    (hstage : x.stage = .answering) (hroute : s.campaign.route = none) (hstate : s.campaign.state = .talk)
    (hcall : (s.port p).call = .connected) :
    tryConnected p s = raise (.state .talk s.campaign.phase s.campaign.origin x.number (some p) none)
      { s with campaign := { s.campaign with
          route := some p
          attempt := some { x with stage := .connected, talk := some 0 } } } := by
  have hdialed : tryOn s p [.dialing, .ringing] = false := by simp [tryOn, hx, hport, hstage]
  have hanswering : tryOn s p [.answering] = true := by simp [tryOn, hx, hport, hstage]
  have hmoved : ∀ c : Campaign, c.route = some p → stateKey c ≠ stateKey s.campaign := fun c hc hkey => by
    have := congrArg (fun k => k.2.2.1) hkey
    simp [stateKey, hc, hroute] at this
  unfold tryConnected
  simp only [hx, hdialed, hanswering, Bool.false_eq_true, if_false, if_true]
  rw [reportChange_moved (hmoved _ (by simp [connectedRoute, hcall])) (by simp [onTry, hstate])]
  simp [State.onCampaign, onTry, hx, hstate, connectedRoute, hcall]

theorem tryAlerting_dialing {x : CurrentTry} (hx : s.campaign.attempt = some x) (hport : x.port = some p)
    (hstage : x.stage = .dialing) : tryAlerting p s =
      raise (.state .ring s.campaign.phase s.campaign.origin x.number s.campaign.route none)
        { s with campaign := { s.campaign with
            state := .ring
            ringTimer := some s.cfg.tuning.ringTimeout
            attempt := some { x with stage := .ringing } } } := by
  have hon : tryOn s p [.dialing] = true := by simp [tryOn, hx, hport, hstage]
  rw [tryAlerting, if_pos hon]
  simp [reportState, State.onCampaign, onTry, hx]

/-- A call state of a call that goes on is told to the route alone where it is not CONNECTED. -/
theorem setCall_noticed {new : CallState} (hcall : (s.port p).call ≠ .none) (hnot : (s.port p).call ≠ .connected)
    (h : new = .connected ∨ s.campaign.route ≠ some p) : setCall p new s =
      s.onPort p fun c => { c with call := new, silenceTimer := if new = .connected then some 35 else none } := by
  rw [setCall_eq (.inl hcall), State.onCampaign_id]
  · refine State.onPort_congr ?_
    simp [silenceAfter, hnot]
  · rcases h with rfl | h
    · simp [routeAfter]
    · simp [routeAfter_of_ne h]

/-- CONNECTED on a port whose call it moves, whether or not it completes the try's order (06 R120, R122). -/
theorem moduleNotice_connected (hlistens : (s.port p).power.listens = true)
    (hcall : callAtConnected (s.port p).call = some .connected)
    (hflight : (s.port p).inFlight = none
      ∨ ∃ f, (s.port p).inFlight = some f ∧ completes f.order.kind .connected = true ∧ servesTry s f.order = true)
    (hrest : ((tryConnected p (s.onPort p fun c =>
      { c with call := .connected, silenceTimer := some 35, inFlight := none, rx := .hunting })).port p).queue = []) :
    moduleNotice p (some .connected) s = some (tryConnected p (s.onPort p fun c =>
      { c with call := .connected, silenceTimer := some 35, inFlight := none, rx := .hunting })) := by
  have hgoes : (s.port p).call ≠ .none ∧ (s.port p).call ≠ .connected := by
    constructor <;> (intro h; simp [h, callAtConnected] at hcall)
  rcases hflight with hflight | ⟨f, hflight, hcompletes, hserves⟩
  · have hset : setCall p .connected (moduleIdle p s) = s.onPort p fun c =>
        { c with call := .connected, silenceTimer := some 35, inFlight := none, rx := .hunting } := by
      rw [setCall_noticed (by simpa using hgoes.1) (by simpa using hgoes.2) (.inl rfl), moduleIdle, State.onPort_onPort]
      exact State.onPort_congr (by simp [hflight])
    rw [moduleNotice_unasked hlistens (by simp [hflight]), unaskedNotice, moduleIdle_port_self]
    simp only [hcall, hset]
  · have hset : setCall p .connected (noticeTaken p s) = s.onPort p fun c =>
        { c with call := .connected, silenceTimer := some 35, inFlight := none, rx := .hunting } := by
      rw [setCall_noticed (by simpa using hgoes.1) (by simpa using hgoes.2) (.inl rfl), noticeTaken,
        State.onPort_onPort]
      rfl
    have hserves' : servesTry (s.onPort p fun c =>
        { c with call := .connected, silenceTimer := some 35, inFlight := none, rx := .hunting }) f.order = true :=
      hserves
    rw [moduleNotice_completes (n := .connected) hlistens hflight hcompletes, completion, noticeTaken_port_self]
    simp only [hcall, Option.getD_some, hset, hserves', if_true, Option.map_some]
    rw [sendFollowing_of_rest (.inl hrest)]

/-- Settles O43. -/
theorem callProgresses : Obligations.CallProgresses := by
  unfold Obligations.CallProgresses
  intro s p x hx hport hpower hq hhalt
  have hlistens : (s.port p).power.listens = true := by simp [hpower, Power.listens]
  refine ⟨fun hstate hstage hcall hroute digits n hflight => ?_,
    fun slot phase hstage hentry hstandby hrecovery => ?_, fun hstate hstage hcall hroute hflight => ?_⟩
  · have hexec : exec (.callProgressAlerting p) s = outcomeOf (moduleNotice p (some .alerting) s) := rfl
    have hset : setCall p .alerting (noticeTaken p s) = s.onPort p fun c =>
        { c with call := .alerting, silenceTimer := none, inFlight := none, rx := .hunting } := by
      rw [setCall_noticed (by simp [hcall]) (by simp [hcall]) (.inr (by simp [hroute])), noticeTaken,
        State.onPort_onPort]
      rfl
    have hserves : servesTry (s.onPort p fun c =>
        { c with call := .alerting, silenceTimer := none, inFlight := none, rx := .hunting })
        ⟨.dial digits, .campaign (.attempt x.id)⟩ = true := by simp [servesTry, hx]
    rw [hexec, moduleNotice_completes (n := .alerting) hlistens hflight rfl, completion, noticeTaken_port_self, hcall]
    simp only [callAtAlerting, Option.getD_some, hset, hserves, if_true, Option.map_some]
    rw [tryAlerting_dialing (x := x) (by simp [hx]) hport hstage, sendFollowing_of_rest (.inl ?_), outcomeOf_some]
    · simp only [State.onPort_campaign, hroute]
      rfl
    · rw [raise_port]
      simpa [State.port] using hq
  · have hexec : exec (.callProgressConnected p) s = outcomeOf (moduleNotice p (some .connected) s) := rfl
    have hconnected := tryConnected_dialed (s := s.onPort p fun c =>
        { c with call := .connected, silenceTimer := some 35, inFlight := none, rx := .hunting }) (p := p) (x := x)
      (slot := slot) (phase := phase) (by exact hx) hport
      (by rcases hstage with ⟨-, h, -, -⟩ | ⟨-, h, -, -⟩ <;> simp [h]) hentry
      (by rcases hstage with ⟨h, -, -, -⟩ | ⟨h, -, -, -⟩ <;> simp [h]) (by exact hrecovery)
      ⟨by simp [hpower], by simp, by simp [hq], hhalt⟩ (by simp) hstandby
    have hnotice := moduleNotice_connected hlistens (p := p) (s := s)
      (by rcases hstage with ⟨-, -, h, -⟩ | ⟨-, -, h, -⟩ <;> simp [h, callAtConnected])
      (by
        rcases hstage with ⟨-, -, -, h⟩ | ⟨-, -, -, digits, n, h⟩
        · exact .inl h
        · exact .inr ⟨_, h, rfl, by simp [servesTry, hx]⟩)
      (by rw [hconnected, raise_port]; simpa [State.port] using hq)
    rw [hexec, hnotice, hconnected, outcomeOf_some]
    simp only [State.onPort_port_self, State.onPort_ports, PerPort.put_put]
    rfl
  · have hexec : exec (.callProgressConnected p) s = outcomeOf (moduleNotice p (some .connected) s) := rfl
    have hanswered := tryConnected_answered (s := s.onPort p fun c =>
        { c with call := .connected, silenceTimer := some 35, inFlight := none, rx := .hunting }) (p := p) (x := x)
      (by exact hx) hport hstage hroute hstate (by simp)
    have hnotice := moduleNotice_connected hlistens (p := p) (s := s) (by simp [hcall, callAtConnected])
      (by
        rcases hflight with h | ⟨n, h⟩
        · exact .inl h
        · exact .inr ⟨_, h, rfl, by simp [servesTry, hx]⟩)
      (by rw [hanswered, raise_port]; simpa [State.port] using hq)
    rw [hexec, hnotice, hanswered, outcomeOf_some]
    rfl

end Sys2Proof.Machine
end

section
/-! An INCOMING on an idle port: refused, or answered by a campaign or in the callback window (03 R75 to R77). -/

namespace Sys2Proof.Machine

variable {s : State} {p : Port}

/-- An order about a call that a free port sends at once. -/
theorem submit_call_free {o : Order} {new : CallState} (ho : o.kind.callState? = some new) (hnew : new ≠ .connected)
    (hfree : PortFree s p) (hcall : (s.port p).call ≠ .none) (hroute : s.campaign.route ≠ some p) :
    submit p o s = s.onPort p fun c =>
      { c with call := new, silenceTimer := none, inFlight := some ⟨o, orderTimeout o.kind⟩ } := by
  obtain ⟨hpower, hflight, hq, hhalt⟩ := hfree
  have hattachment : ∀ a, o.attachmentOn a = a := by
    obtain ⟨kind, who⟩ := o
    intro a
    cases kind <;> first | rfl | cases ho
  rw [submit, if_pos (answerFor_accepted (by simp [hpower, Power.usable]) hhalt (.inl (by simp [hq]))),
    acceptOrder_free hpower hflight hq, sendOrder_call ho, State.onPort_onPort,
    setCall_port (.inl (by simpa using hcall)) (by exact hroute), State.onPort_onPort]
  exact State.onPort_congr (by simp [silenceAfter, hnew, hattachment])

/-- The offered call as its port notes and reports it (06 R127). -/
def offerTaken (p : Port) (digits : Option (List Byte)) (s : State) : State :=
  raise (.port (.attention (.incoming digits.isSome)) p (s.port p).power
      { (s.port p).attention with incoming := true } (s.port p).restartCount)
    (s.onPort p fun c => { c with
      call := .offered, rx := .hunting, attention := { c.attention with incoming := true } })

theorem exec_incoming {digits : Option (List Byte)} (hfree : PortFree s p) (hcall : (s.port p).call = .none)
    (hstandby : isStandbyPort s p = false) : exec (.incoming p digits) s =
      .next (takeOffer p (callerDigits digits) (offerTaken p (callerDigits digits) s)) := by
  obtain ⟨hpower, hflight, hq, hhalt⟩ := hfree
  have hexec : exec (.incoming p digits) s = outcomeOf (moduleNotice p (some (.incoming (callerDigits digits))) s) := rfl
  have hkept : isStandbyPort (offerTaken p (callerDigits digits) s) p = false := by
    simpa [isStandbyPort, offerTaken] using hstandby
  have hoffered : raisePort (.attention (.incoming (callerDigits digits).isSome)) p ((moduleIdle p s).onPort p fun c =>
      { c with call := .offered, attention := { c.attention with incoming := true } }) =
        offerTaken p (callerDigits digits) s := by
    rw [moduleIdle, State.onPort_onPort, raisePort, State.onPort_port_self]
    rfl
  rw [hexec, moduleNotice_unasked (by simp [hpower, Power.listens]) (by simp [hflight]), unaskedNotice, unaskedIncoming,
    if_pos (by simp [hpower, hcall])]
  dsimp only
  rw [hoffered, if_neg (by simp [hkept]), outcomeOf_some]

theorem callerDigits_given {digits given : Option (List Byte)}
    (h : (given = digits ∧ ∀ d, digits = some d → d.length ≤ 20 ∧ d.all dialChar = true)
      ∨ (given = none ∧ ∃ d, digits = some d ∧ (20 < d.length ∨ d.all dialChar = false))) :
    callerDigits digits = given := by
  rcases h with ⟨rfl, hgood⟩ | ⟨rfl, d, rfl, hbad⟩
  · cases given with
    | none => rfl
    | some d => simp [callerDigits, hgood d rfl]
  · rw [callerDigits, if_neg]
    rw [Bool.and_eq_true, decide_eq_true_iff]
    rintro ⟨hshort, hall⟩
    rcases hbad with h | h
    · omega
    · simp [hall] at h

/-- The offered port answers or refuses at once. -/
theorem offerTaken_submit {digits : Option (List Byte)} {o : Order} {new : CallState} {n : Nat}
    (ho : o.kind.callState? = some new) (hnew : new ≠ .connected) (hfree : PortFree s p)
    (hroute : s.campaign.route ≠ some p) : submit p o { offerTaken p digits s with serial := n } =
      raise (.port (.attention (.incoming digits.isSome)) p .on
          { (s.port p).attention with incoming := true } (s.port p).restartCount)
        { s with
          serial := n
          ports := s.ports.put p { s.port p with
            call := new, silenceTimer := none, rx := .hunting,
            attention := { (s.port p).attention with incoming := true },
            inFlight := some ⟨o, orderTimeout o.kind⟩ } } := by
  have hpower : (s.ports.get p).power = .on := hfree.1
  have hfree' : PortFree { offerTaken p digits s with serial := n } p := by
    obtain ⟨hpower, hflight, hq, hhalt⟩ := hfree
    simp only [PortFree, offerTaken, State.port, raise_frame]
    simpa [State.port] using ⟨hpower, hflight, hq, hhalt⟩
  rw [submit_call_free ho hnew hfree' (by simp [offerTaken, State.port]) (by simpa [offerTaken] using hroute)]
  simp only [offerTaken, hpower, raise_eq, State.onPort, State.port, PerPort.get_put_self, PerPort.put_put]

/-- The try of an answered call over the entry of the port's network (03 R76, R77). -/
theorem answerTry_eq {origin : TryOrigin} {id : Nat} {slot : TableSlot} {e : Entry}
    (hattached : (s.port p).attachment = .attached e.net) (hfind : s.table.find p e.net = some slot)
    (he : s.table.entry slot = some e) : answerTry origin id p s = { s with
      log := { s.log with counter := min 65535 (s.log.counter + 1) }
      table := s.table.onEntry slot fun x => { x with holds := { x.holds with call := true } }
      campaign := { s.campaign with
        attempt := some
          { id := id, origin := origin, number := some (min 65535 (s.log.counter + 1)), slot := none,
            destination := none, digits := [], dataFlag := false, entry := some slot,
            net := some e.net, port := some p, score := some e.score, stage := .answering,
            release := none, talk := none, data := none, cause := none }
        callEntry := some slot
        callPort := some p
        state := .talk
        route := none } } := by
  have hslot : attachedSlot s p = some slot := by simp [attachedSlot, hattached, hfind]
  unfold answerTry
  simp only [hslot, Option.bind_some, he, Option.map_some, nextNumber, useNumber, countUp_eq_min]
  rfl

/-- A network of a port stays found where only the holds of entries change. -/
theorem find_onAll_holds {net : NetworkId} {f : Holds → Holds} (t : NetTable) :
    (t.onAll fun x => { x with holds := f x.holds }).find p net = t.find p net := by
  unfold NetTable.find
  congr 1
  funext slot
  rw [NetTable.entry_onAll]
  cases t.entry slot <;> rfl

theorem answerContext_idle (h : s.campaign.state = .idle) : answerContext s =
    raise (.started .incoming) { s with
      log := AttemptLog.empty, campaign := { Campaign.inIdle with origin := some .incoming } } := by
  rw [answerContext, if_neg (by simp [h])]
  rfl

theorem answerContext_callback (h : s.campaign.state = .callback) : answerContext s = { s with
    campaign := { s.campaign with windowTimer := none, callbackPort := none }
    table := s.table.onAll fun x => { x with holds := x.holds.put .callback false } } := by
  rw [answerContext, if_pos h]
  rfl

/-- The state with the offered call being answered, reported so. -/
def answering (p : Port) (given : Option (List Byte)) (s : State) : State :=
  raise (.incoming p given true)
    (raise (.port (.attention (.incoming given.isSome)) p .on { (s.port p).attention with incoming := true }
        (s.port p).restartCount)
      { s with
        serial := s.serial + 1
        ports := s.ports.put p { s.port p with
          call := .answering, silenceTimer := none, rx := .hunting,
          attention := { (s.port p).attention with incoming := true },
          inFlight := some ⟨⟨.answer, .campaign (.call s.serial)⟩, 10⟩ } })

theorem takeOffer_answered {given : Option (List Byte)} (hfree : PortFree s p) (hroute : s.campaign.route ≠ some p)
    (hyes : answersIncoming s = true) : takeOffer p given (offerTaken p given s) =
      seekStandby (reportChange (stateKey s.campaign)
        (answerTry (if s.campaign.state = .callback then .callback else .incoming) s.serial p
          (answerContext (answering p given s)))) := by
  have hanswered := offerTaken_submit (digits := given) (o := ⟨.answer, .campaign (.call s.serial)⟩) (new := .answering)
    (n := s.serial + 1) rfl (by simp) hfree hroute
  have hbump : (offerTaken p given s).bumpSerial = { offerTaken p given s with serial := s.serial + 1 } := by
    simp [offerTaken, raise_eq, State.onPort, State.bumpSerial]
  have hserial : (offerTaken p given s).serial = s.serial := by simp [offerTaken]
  have hcampaign : (offerTaken p given s).campaign = s.campaign := by simp [offerTaken]
  have hanswers : answersIncoming (offerTaken p given s) = true := by
    simpa [answersIncoming, offerTaken] using hyes
  rw [takeOffer, if_pos hanswers]
  dsimp only
  rw [hserial, hbump, hanswered, hcampaign]
  rfl

/-- Settles O45. -/
theorem incomingOffered : Obligations.IncomingOffered := by
  unfold Obligations.IncomingOffered
  rintro s p digits given e slot attention hfree hcall hstandby hroute hgiven rfl
  have hnot : isStandbyPort s p = false := by
    cases hb : s.campaign.standby with
    | none => simp [isStandbyPort, hb]
    | some b => simp [isStandbyPort, hb, hstandby b hb]
  have hexec := exec_incoming (digits := digits) hfree hcall hnot
  rw [callerDigits_given hgiven] at hexec
  refine ⟨fun hrefused => ?_, fun hattached hfind he henable => ⟨fun hidle hanswer hmode => ?_,
    fun hstate hnone hnoroute => ?_⟩⟩
  · have hno : answersIncoming (offerTaken p given s) = false := by
      rcases hrefused with ⟨hidle, h | h⟩ | ⟨hidle, hcallback⟩
      · simp [answersIncoming, offerTaken, hidle, h]
      · simp [answersIncoming, offerTaken, hidle, h]
      · cases hs : s.campaign.state <;> simp_all [answersIncoming, offerTaken]
    have hrefuse := offerTaken_submit (digits := given) (o := ⟨.refuse, .campaign .offered⟩) (new := .clearing)
      (n := s.serial) rfl (by simp) hfree hroute
    have hserial : { offerTaken p given s with serial := s.serial } = offerTaken p given s := by
      simp [offerTaken, raise_eq, State.onPort]
    rw [hserial] at hrefuse
    rw [hexec, takeOffer, if_neg (by simp [hno]), hrefuse]
    rfl
  · have hyes : answersIncoming s = true := by simp [answersIncoming, hidle, Campaign.inIdle, hanswer, hmode]
    rw [hexec, takeOffer_answered hfree hroute hyes, answerContext_idle (by simp [answering, hidle, Campaign.inIdle]),
      answerTry_eq (slot := slot) (e := e) (by simpa [answering, State.port] using hattached)
        (by simpa [answering] using hfind) (by simpa [answering] using he),
      reportChange_moved (stateKey_ne_of_state (by simp [hidle, Campaign.inIdle])) (by simp),
      seekStandby_disabled (by simpa [answering] using henable), if_neg (by simp [hidle, Campaign.inIdle])]
    simp only [raise_eq, answering]
    rfl
  · have hyes : answersIncoming s = true := by simp [answersIncoming, hstate]
    rw [hexec, takeOffer_answered hfree hroute hyes, answerContext_callback (by simpa [answering] using hstate),
      answerTry_eq (slot := slot) (e := { e with holds := e.holds.put .callback false })
        (by simpa [answering, State.port] using hattached)
        ((find_onAll_holds (f := fun h => h.put .callback false) _).trans (by simpa [answering] using hfind))
        (by simp [answering, he]),
      reportChange_moved (stateKey_ne_of_state (by simp [hstate])) (by simp),
      seekStandby_disabled (by simpa [answering] using henable), if_pos hstate]
    simp only [raise_eq, answering, hnoroute]
    rfl

end Sys2Proof.Machine
end

section
/-! Start-up, the tick, conversions, and the plan that never ends its event (11 R199, R200; log 2; 09 R167 to R172;
log 11). -/

namespace Sys2Proof.Machine

variable {s : State} {p : Port}

/-! ## Start-up (11 R199, R200) -/

/-- The START SCANs of a start-up: each OFF port wakes for its own. -/
theorem startScans_eq (hcampaign : s.campaign = Campaign.inIdle) (hhalt : s.supply.halt = false)
    (hports : ∀ p, ∃ power, (power = .off ∨ power = .disabled) ∧ s.port p = PortContext.afterReset power) :
    eachPort startScan portList s = { s with ports := PerPort.build fun p =>
      if (s.port p).power = .off then startedPort else PortContext.afterReset .disabled } := by
  refine eachPort_eq_build fun p v hv => ?_
  obtain ⟨power, hpower, hport⟩ := hports p
  have hget : v.get p = PortContext.afterReset power := hv.trans hport
  have hport' : State.port { s with ports := v } p = PortContext.afterReset power := hget
  rcases hpower with rfl | rfl
  · rw [startScan, if_pos (by rw [hport']; rfl), submit, if_pos, acceptOrder_off, hport]
    · simp only [State.onPort, hget]
      rfl
    · rw [hport']
      rfl
    · rw [hport']
      rfl
    · simp [hcampaign, Campaign.inIdle]
    · exact answerFor_accepted (by rw [hport']; rfl) hhalt (by rw [hport']; simp [PortContext.afterReset])
  · rw [startScan, if_neg (by rw [hport']; simp [PortContext.afterReset]), hport]
    simp only [PortContext.afterReset, reduceCtorEq, if_false]
    have hself : v.put p (PortContext.afterReset .disabled) = v := by rw [← hget, PerPort.put_get]
    exact congrArg (fun w => { s with ports := w }) hself.symm

theorem startUp_eq (kind : ResetKind) (s : State) : startUp kind s =
    { raise (.start kind (!s.store.good) s.straps.fitted s.straps.rate) (resetBlocks s) with
      ports := PerPort.build fun p =>
        if s.straps.fitted.get p = true ∧ (loadedConfig s.store).enables.get p = true then startedPort
        else PortContext.afterReset .disabled } := by
  have hport : ∀ p, (raise (.start kind (!s.store.good) s.straps.fitted s.straps.rate) (resetBlocks s)).port p =
      PortContext.afterReset (powerAfterReset s.straps (loadedConfig s.store) p) := by
    intro p
    rw [raise_port]
    cases p <;> rfl
  rw [startUp, startScans_eq]
  · congr 1
    congr 1
    funext p
    rw [hport]
    by_cases h : s.straps.fitted.get p = true ∧ (loadedConfig s.store).enables.get p = true
    · simp [powerAfterReset, h, PortContext.afterReset]
    · have hdisabled : powerAfterReset s.straps (loadedConfig s.store) p = .disabled := if_neg (by simpa using h)
      rw [if_neg h, hdisabled]
      rfl
  · rw [(raise_frame _ _).2.2.2.1]
    rfl
  · rw [raise_eq]
    rfl
  · intro p
    refine ⟨_, ?_, hport p⟩
    unfold powerAfterReset
    split <;> simp

/-- Settles O2. -/
theorem resetStartsUp : Obligations.ResetStartsUp := by
  unfold Obligations.ResetStartsUp
  intro straps s c kind hc
  have hexec : exec c s = .next (startUp kind { s with straps := straps }) := by
    rcases hc with ⟨rfl, rfl⟩ | ⟨rfl, rfl⟩ <;> rfl
  have hgood : s.store.good = true ↔ s.store.mark = true ∧ imageCrc s.store.image = s.store.crc := by
    simp [Store.good]
  refine ⟨_, hexec, ?_⟩
  rw [startUp_eq, raise_eq]
  refine ⟨?_, rfl, rfl, rfl, rfl, rfl, ⟨!s.store.good, by simp [← hgood], rfl⟩, rfl, rfl, rfl, rfl, rfl, rfl, fun p => ?_⟩
  · show loadedConfig s.store = _
    rw [loadedConfig]
    simp only [hgood]
  · simp only [State.port, PerPort.get_build]
    rfl

/-! ## The tick (log 2) -/

/-- A list of events of which none is due leaves the state as it is. -/
theorem settle_none_due {events : List DueEvent} (h : ∀ e ∈ events, isDue s e = false) : settle events s = some s := by
  induction events with
  | nil => rfl
  | cons e rest ih =>
    rw [settle, takeIfDue_of_not_due (h e (by simp)), Option.bind_some]
    exact ih fun x hx => h x (List.mem_cons_of_mem e hx)

/-- The Survey Timer's step at a tick (08 R154). -/
def Survey.ticked (period : Nat) (v : Survey) : Survey :=
  if v.running then
    if counterNext v.counter = period then
      { v with counter := 0, periodEndDue := true, matchDue := allPorts false }
    else { v with counter := counterNext v.counter, matchDue := v.inForce.map fun c => c == counterNext v.counter }
  else v

theorem surveyTick_eq (s : State) : surveyTick s = s.onSurvey (Survey.ticked s.cfg.period) := by
  unfold surveyTick State.onSurvey Survey.ticked
  dsimp only
  split
  · split <;> rfl
  · rfl

/-- The tests of the ports do not read the notes of a tick. -/
theorem tests_noteTests (s : State) (p : Port) : restartTest (noteTests s) p = restartTest s p
    ∧ sleepTest (noteTests s) p = sleepTest s p ∧ wakeTest (noteTests s) p = wakeTest s p := by
  have hport : (noteTests s).port p = { s.port p with tickDue := portTests s p } := by
    simp [noteTests, State.port]
  refine ⟨?_, ?_, ?_⟩
  · simp only [restartTest, hport]
    rfl
  · simp only [sleepTest, hport]
    rfl
  · simp only [wakeTest, hport]
    rfl

/-- The state after one second, before the ports' tests are noted. -/
def secondPassed (s : State) : State :=
  { s with
    table := (ageTable s).table
    campaign := campaignSecond s.campaign
    ports := s.ports.map portSecond
    survey := s.survey.ticked s.cfg.period
    supply := { s.supply with interval := s.supply.interval - 1 } }

theorem countSecond_eq (s : State) : countSecond s = noteTests (secondPassed s) := by
  simp only [countSecond, surveyTick_eq]
  rfl

/-- Settles O7. -/
theorem tickCounts : Obligations.TickCounts := by
  unfold Obligations.TickCounts
  intro s hquiet
  have hnone : ∀ e ∈ dueOrder, isDue s e = false := by simpa [Quiet] using hquiet
  have hexec : exec .tick s = .next (noteTests (secondPassed s)) := by
    simp only [exec, execTick, tickSecond, settle_none_due hnone, Option.map_some, outcomeOf_some, countSecond_eq]
  refine ⟨_, hexec, rfl, rfl, rfl, rfl, rfl, rfl, rfl, rfl, rfl, fun slot => ?_, fun slot => ?_, ?_, fun p => ?_, rfl,
    fun hheld => ?_, fun hhost hhalt n hn => ⟨fun hperiod => ?_, fun hperiod => ?_⟩⟩
  · refine (NetTable.entry_onAll s.table slot _).trans ?_
    exact congrArg (fun f => (s.table.entry slot).map f) (funext fun e => by rw [Entry.older, countUp_eq_min])
  · refine (NetTable.mem_slotsWhere (t := s.table.onAll (Entry.older s.cfg.preferences))).trans ?_
    simp only [Entry.aged_iff]
    rfl
  · have hactive : s.campaign.active = decide (s.campaign.state ≠ .idle) := Campaign.active_eq _
    have hup : countUp 65535 = fun n => min 65535 (n + 1) := funext fun _ => countUp_eq_min
    show campaignSecond s.campaign = _
    simp only [campaignSecond, hactive, hup, timerDown, decide_eq_true_eq, ite_not]
  · obtain ⟨hrestart, hsleep, hwake⟩ := tests_noteTests (secondPassed s) p
    rw [hrestart, hsleep, hwake]
    simp only [noteTests, State.port, PerPort.get_build, portTests]
    simp only [secondPassed, PerPort.get_map, portSecond, timerDown]
  · show s.survey.ticked s.cfg.period = s.survey
    rw [Survey.ticked, if_neg (by rcases hheld with h | h <;> simp [Survey.running, h])]
  · show s.survey.ticked s.cfg.period = _
    have hnext : counterNext s.survey.counter = s.cfg.period := hperiod ▸ hn.symm
    rw [Survey.ticked, if_pos (by simp [Survey.running, hhost, hhalt]), if_pos hnext]
    rfl
  · show s.survey.ticked s.cfg.period = _
    have hnext : counterNext s.survey.counter = n := hn.symm
    rw [Survey.ticked, if_pos (by simp [Survey.running, hhost, hhalt]), hnext, if_neg hperiod]
    rfl

/-! ## A plan that never ends its event (log 11) -/

/-- A chain whose every link hands on to another of a kind never rests. -/
theorem runGo_none_of_endless {P : Go → State → Prop}
    (h : ∀ g u, P g u → g ≠ .rest ∧ P (goStep g u).1 (goStep g u).2) (n : Nat) {g : Go} {u : State} (hu : P g u) :
    runGo n g u = none := by
  induction n generalizing g u with
  | zero => rfl
  | succ n ih =>
    obtain ⟨hg, hnext⟩ := h g u hu
    rw [runGo_succ n g u hg]
    exact ih hnext

/-- The links of a walk over a RESURVEY at slot 0 and a GOTO back to it, with no port to survey. -/
def Circles (g : Go) (u : State) : Prop :=
  u.cfg.steps.get 0 = .resurvey true ∧ u.cfg.steps.get 1 = .goto 0 ∧ (∀ p, (u.port p).power = .disabled)
    ∧ ((g = .walk 0)
      ∨ (g = .resurvey .step ∧ u.campaign.cursor = some 0 ∧ u.campaign.controlCount = 0)
      ∨ (g = .resurveyDone ∧ u.campaign.cursor = some 0 ∧ u.campaign.controlCount = 0
        ∧ ∃ r, u.campaign.resurvey = some r ∧ r.use = .step)
      ∨ (g = .walk 1 ∧ u.campaign.controlCount = 0))

/-- A resurvey that finds no port to await completes at once (04 R101). -/
theorem beginResurvey_none {use : ResurveyUse} (h : ∀ p, (s.port p).power = .disabled) :
    beginResurvey use s = (.resurveyDone, s.bumpSerial.onCampaign fun c => { c with
      resurvey := some ⟨s.serial, use, allPorts false⟩, state := .resurvey }) := by
  have hbuild : PerPort.build (surveyable s) = allPorts false := by
    refine PerPort.ext_get fun p => ?_
    rw [PerPort.get_build, surveyable, h p]
    cases p <;> rfl
  have hfalse : ∀ p, (allPorts false).get p = false := fun p => by cases p <;> rfl
  unfold beginResurvey
  dsimp only
  rw [hbuild]
  simp [portList, eachPort, resurveyPort, isAwaited, awaitsAny, hfalse]

theorem circles_step (g : Go) (u : State) (h : Circles g u) : g ≠ .rest ∧ Circles (goStep g u).1 (goStep g u).2 := by
  obtain ⟨h0, h1, hports, rfl | ⟨rfl, hcursor, hcount⟩ | ⟨rfl, hcursor, hcount, r, hr, huse⟩ | ⟨rfl, hcount⟩⟩ := h
  · refine ⟨by simp, ?_⟩
    simp only [goStep, walkSlot, h0]
    exact ⟨h0, h1, hports, .inr (.inl ⟨rfl, rfl, rfl⟩)⟩
  · refine ⟨by simp, ?_⟩
    simp only [goStep, beginResurvey_none hports]
    exact ⟨h0, h1, hports, .inr (.inr (.inl ⟨rfl, hcursor, hcount, _, rfl, rfl⟩))⟩
  · refine ⟨by simp, ?_⟩
    have hdone : completeResurvey u = (.walk 1, u.onCampaign fun c =>
        { c with resurvey := none, resurveysDone := c.resurveysDone + 1 }) := by
      simp [completeResurvey, hr, huse, goAfterCursor, hcursor, h0, stepMore, goSuccessor]
    simp only [goStep, hdone]
    exact ⟨h0, h1, hports, .inr (.inr (.inr ⟨rfl, hcount⟩))⟩
  · refine ⟨by simp, ?_⟩
    have hwalk : walkSlot 1 u = (.walk 0, (u.onCampaign fun c => { c with cursor := some 1 }).onCampaign fun c =>
        { c with controlCount := c.controlCount + 1 }) := by
      simp [walkSlot, h1, controlStep, hcount]
    simp only [goStep, hwalk]
    exact ⟨h0, h1, hports, .inl rfl⟩

/-- Settles O48. -/
theorem endlessPlanStops : Obligations.EndlessPlanStops := by
  unfold Obligations.EndlessPlanStops
  intro s harmed hidle hmode hhalt hports hentry h0 h1
  have hstart : canStart { s with armed := false } = true :=
    (canStart_iff _).mpr ⟨.inl (by simp [hidle, Campaign.inIdle]), hmode, hhalt⟩
  have hnone : startCampaign .button { s with armed := false } = none := by
    rw [startCampaign, runChain]
    dsimp only
    rw [freshCampaign_idle { s with armed := false } .button (by simp [hidle, Campaign.inIdle]),
      runGo_none_of_endless circles_step chainBound, Option.map_none]
    refine ⟨?_, ?_, fun p => ?_, .inl (by rw [hentry])⟩
    · simpa using h0
    · simpa using h1
    · rw [raise_port]
      exact hports p
  rw [exec_callPress s harmed, takePress, if_pos hstart, hnone]
  rfl

/-! ## Conversions (09 R167 to R172) -/

/-- Taking orders and matches leaves the Supply Monitor as it is. -/
@[simp] theorem periodEnds_supply (s : State) : (periodEnds s).supply = s.supply := by
  simp [periodEnds, decayFailures]

@[simp] theorem takeMatch_supply (p : Port) (s : State) : (takeMatch p s).supply = s.supply := by
  unfold takeMatch compareMatches
  dsimp only
  (repeat' split) <;> simp [recordMatch]

@[simp] theorem finishStep_supply (s : State) : (finishStep s).supply = s.supply := by
  unfold finishStep
  rw [eachPort_frame State.supply _ takeMatch_supply]
  split <;> simp

@[simp] theorem haltPort_supply (p : Port) (s : State) : (haltPort p s).supply = s.supply := by
  unfold haltPort
  split <;> simp

/-- The Supply Monitor after the entry to HALT: a conversion start still due has begun (log 31). -/
theorem enterHalt_supply (s : State) : (enterHalt s).supply = { s.supply with
    halt := true
    interval := 60
    converting := if s.supply.interval = 0 then true else s.supply.converting } := by
  have hstart : (takeStart (finishStep s)).supply =
      if s.supply.interval = 0 then { s.supply with converting := true, interval := if s.supply.halt then 60 else 10 }
      else s.supply := by
    unfold takeStart
    rw [finishStep_supply]
    split <;> simp [conversionStarts]
  unfold enterHalt holdByHalt holdCounter
  dsimp only
  simp only [raise_frame, State.onSurvey_supply]
  rw [eachPort_frame State.supply _ haltPort_supply, State.onSupply_supply, hstart]
  split <;> simp_all

/-- What the notice of a mode leaves of the Supply Monitor. -/
theorem takeMode_supply (s : State) : ∃ n, (takeMode s).supply = { s.supply with idleNotices := n } := by
  unfold takeMode endCampaign closeCampaign toIdle
  dsimp only
  split
  all_goals
    split
    · exact ⟨_, by simp [withdrawAllHolds, writeSummary]; rfl⟩
    · exact ⟨s.supply.idleNotices, by simp⟩

theorem changeMode_supply (after : SupplyMode) (s : State) :
    ∃ n, (changeMode after s).supply = { s.supply with mode := after, idleNotices := n } := by
  unfold changeMode
  split
  next h => exact ⟨s.supply.idleNotices, by simp [← h]⟩
  next =>
    obtain ⟨n, hn⟩ := takeMode_supply (raise (.supplyMode s.supply.mode after s.supply.last)
      (s.onSupply fun m => { m with mode := after }))
    exact ⟨n, hn.trans (by simp)⟩

/-- A new mode that clears no standby and ends no callback window is only reported (09 R172). -/
theorem changeMode_reported {after : SupplyMode} (h : after ≠ s.supply.mode) (hstandby : s.campaign.standby = none)
    (hcallback : s.campaign.state ≠ .callback) : changeMode after s =
      raise (.supplyMode s.supply.mode after s.supply.last) (s.onSupply fun m => { m with mode := after }) := by
  have hcleared : ∀ u : State, u.campaign = s.campaign → clearStandby .supply u = u := fun u hu =>
    clearStandby_none (by rw [hu, hstandby])
  rw [changeMode, if_neg h.symm, takeMode, hcleared _ (by simp), ite_self]
  rw [if_neg (by simp [hcallback])]

theorem haltIfCutoff_other (h : s.supply.mode ≠ .cutoff ∨ s.supply.halt = true ∨ s.campaign.state ≠ .idle) :
    haltIfCutoff s = s := by
  rw [haltIfCutoff, if_neg]
  rintro ⟨hmode, hidle, hhalt⟩
  rcases h with h | h | h
  · exact h hmode
  · simp [h] at hhalt
  · exact h hidle

theorem exec_conversionDone {code : BitVec 12} (h : s.supply.converting = true) :
    exec (.conversionDone code) s = .next (conversionCompletes (4 * code.toNat) s) := by
  simp only [exec, execConversionDone, h, if_true]

/-- A conversion outside HALT (09 R168): the value is stored, the mode evaluated, and HALT entered in CUTOFF. -/
theorem conversionCompletes_running {v : Nat} (h : s.supply.halt = false) : conversionCompletes v s =
    if s.campaign.state = .idle then
      haltIfCutoff (changeMode (evaluateMode s.cfg.thresholds s.supply.mode v) (storeConversion v s))
    else changeMode (evaluateMode s.cfg.thresholds s.supply.mode v) (storeConversion v s) := by
  simp [conversionCompletes, h]

/-- Settles O18. -/
theorem conversions : Obligations.Conversions := by
  unfold Obligations.Conversions
  refine ⟨fun s hdue => ?_, fun s code hconverting hhalt => ?_,
    fun s code after hconverting hhalt hafter hnohalt => ⟨fun hsame => ?_, fun hmoved hstandby hcallback => ?_⟩⟩
  · simp only [exec, execConversionStart, takeIfDue_of_due (e := .conversionStart) (s := s) (by simp [isDue, hdue]),
      takeDue, outcomeOf_some]
    rfl
  · obtain ⟨n, hn⟩ := changeMode_supply (evaluateMode s.cfg.thresholds s.supply.mode (4 * code.toNat))
      (storeConversion (4 * code.toNat) s)
    have houtside : (conversionCompletes (4 * code.toNat) s).outside = s.outside := by
      rw [conversionCompletes_running hhalt]
      split <;> simp
    have hsupply : ∃ halt interval, (conversionCompletes (4 * code.toNat) s).supply = { s.supply with
        last := some (4 * code.toNat)
        mode := evaluateMode s.cfg.thresholds s.supply.mode (4 * code.toNat)
        halt := halt
        interval := interval
        converting := (conversionCompletes (4 * code.toNat) s).supply.converting
        idleNotices := n }
        ∧ (s.supply.interval ≠ 0 → (conversionCompletes (4 * code.toNat) s).supply.converting = false) := by
      rw [conversionCompletes_running hhalt]
      unfold haltIfCutoff
      split
      · split
        · refine ⟨true, 60, ?_, fun hi => ?_⟩
          · rw [enterHalt_supply, hn]
            simp [storeConversion]
          · rw [enterHalt_supply, hn]
            simp [storeConversion, hi]
        · exact ⟨s.supply.halt, s.supply.interval, by rw [hn]; rfl, fun _ => by rw [hn]; rfl⟩
      · exact ⟨s.supply.halt, s.supply.interval, by rw [hn]; rfl, fun _ => by rw [hn]; rfl⟩
    obtain ⟨halt, interval, hsupply, hconverted⟩ := hsupply
    exact ⟨_, exec_conversionDone hconverting, hconverted, by rw [hsupply], by rw [hsupply], houtside⟩
  · have hkept : changeMode after (storeConversion (4 * code.toNat) s) = storeConversion (4 * code.toNat) s :=
      if_pos hsame.symm
    rw [exec_conversionDone hconverting, conversionCompletes_running hhalt, ← hafter, hkept]
    split
    next hidle =>
      have hnot : s.supply.mode ≠ .cutoff := hsame ▸ hnohalt.resolve_right (by simp [hidle])
      rw [haltIfCutoff_other (s := storeConversion (4 * code.toNat) s) (.inl hnot)]
      rfl
    next => rfl
  · rw [exec_conversionDone hconverting, conversionCompletes_running hhalt, ← hafter,
      changeMode_reported (s := storeConversion (4 * code.toNat) s) hmoved hstandby hcallback]
    split
    next hidle =>
      rw [haltIfCutoff_other (s := raise _ _) (.inl (by simpa using hnohalt.resolve_right (by simp [hidle])))]
      rfl
    next => rfl

end Sys2Proof.Machine
end

section
/-! Bytes on the host line and on a module line (10 R181, 07 R141), and the frames that leave (10 R185, R194). -/

namespace Sys2Proof.Machine

variable {s : State} {p : Port}

/-! ## Bytes the receiver collects without a frame's end -/

/-- The receiver after bytes that end no frame; none where one of them ends a frame, good or bad. -/
def Receiver.through : Receiver → List Byte → Option Receiver
  | r, [] => some r
  | r, b :: rest => if (receiveByte r b).2 = .nothing then (receiveByte r b).1.through rest else none

theorem Receiver.through_cons {r r' : Receiver} {b : Byte} {rest : List Byte}
    (h : receiveByte r b = (r', .nothing)) : r.through (b :: rest) = r'.through rest := by
  simp [Receiver.through, h]

theorem receiveByte_collecting {len b : Byte} {acc : List Byte} (h : acc.length + 2 < len.toNat + 3) :
    receiveByte (.collecting (len :: acc)) b = (.collecting (len :: (acc ++ [b])), .nothing) := by
  simp only [receiveByte, List.cons_append, List.length_cons, List.length_append, List.length_nil]
  rw [if_neg (by omega)]

theorem through_collecting (len : Byte) (bytes acc : List Byte) (h : acc.length + bytes.length + 1 < len.toNat + 3) :
    (Receiver.collecting (len :: acc)).through bytes = some (.collecting (len :: (acc ++ bytes))) := by
  induction bytes generalizing acc with
  | nil => simp [Receiver.through]
  | cons b rest ih =>
    rw [List.length_cons] at h
    rw [Receiver.through_cons (receiveByte_collecting (by omega)), ih _ (by simp; omega), List.append_assoc,
      List.singleton_append]

/-- A frame's bytes up to the low byte of its CRC. -/
theorem through_frame (type hi : Byte) (payload : List Byte) (h : payload.length ≤ 199) :
    Receiver.hunting.through (0xA5 :: byteOf (payload.length + 1) :: type :: (payload ++ [hi])) =
      some (.collecting (byteOf (payload.length + 1) :: type :: (payload ++ [hi]))) := by
  have hlen := byteOf_toNat (payload.length + 1) (by omega)
  have hkept : receiveByte (.collecting []) (byteOf (payload.length + 1)) =
      (.collecting [byteOf (payload.length + 1)], .nothing) := by
    rw [receiveByte, if_neg]
    rintro (hzero | hbig)
    · rw [hzero] at hlen
      simp at hlen
    · omega
  rw [Receiver.through_cons (r' := .collecting []) rfl, Receiver.through_cons hkept,
    through_collecting _ _ _ (by simp; omega), List.nil_append]

/-- The low byte of the CRC ends the frame. -/
theorem receiveByte_last (type hi lo : Byte) (payload : List Byte) (h : payload.length ≤ 199) :
    receiveByte (.collecting (byteOf (payload.length + 1) :: type :: (payload ++ [hi]))) lo =
      (.hunting, if crc16 (byteOf (payload.length + 1) :: type :: payload) = wordOf hi lo then .good ⟨type, payload⟩
        else .bad) := by
  have hlen := byteOf_toNat (payload.length + 1) (by omega)
  simp only [receiveByte]
  rw [if_pos (by simp; omega)]
  have hbytes : byteOf (payload.length + 1) :: type :: (payload ++ [hi]) ++ [lo] =
      (byteOf (payload.length + 1) :: type :: payload) ++ [hi, lo] := by simp
  rw [hbytes, checkedFrame, List.length_append, List.length_cons (as := [lo]), List.length_singleton,
    Nat.add_sub_cancel, List.take_left, List.drop_left]

theorem through_no_start {bytes : List Byte} (h : 0xA5 ∉ bytes) : Receiver.hunting.through bytes = some .hunting := by
  induction bytes with
  | nil => rfl
  | cons b rest ih =>
    rw [List.mem_cons, not_or] at h
    rw [Receiver.through_cons (r' := .hunting) (by rw [receiveByte, if_neg (Ne.symm h.1)]), ih h.2]

theorem receiveByte_badLength {len : Byte} (h : len = 0 ∨ 200 < len.toNat) :
    receiveByte (.collecting []) len = (.hunting, .bad) := by
  rw [receiveByte, if_pos h]

/-! ## The same on the lines -/

theorem hostBytes_through {bytes : List Byte} {r : Receiver} (rest : List Byte) (s : State)
    (h : s.link.rx.through bytes = some r) :
    hostBytes (bytes ++ rest) s = hostBytes rest (s.onLink fun l => { l with rx := r }) := by
  induction bytes generalizing s with
  | nil =>
    obtain rfl : s.link.rx = r := by simpa [Receiver.through] using h
    rfl
  | cons b bytes ih =>
    rw [Receiver.through] at h
    split at h
    next hsilent =>
      rw [List.cons_append, hostBytes, hsilent, hostHeard, Option.bind_some, ih _ h]
      rfl
    next => exact absurd h (by simp)

theorem moduleBytes_through {bytes : List Byte} {r : Receiver} (rest : List Byte) (s : State)
    (h : (s.port p).rx.through bytes = some r) :
    moduleBytes p (bytes ++ rest) s = moduleBytes p rest (s.onPort p fun c => { c with rx := r }) := by
  induction bytes generalizing s with
  | nil =>
    obtain rfl : (s.port p).rx = r := by simpa [Receiver.through] using h
    rw [State.onPort_id rfl]
    rfl
  | cons b bytes ih =>
    rw [Receiver.through] at h
    split at h
    next hsilent =>
      rw [List.cons_append, moduleBytes, hsilent, moduleHeard, Option.bind_some, ih _ (by simpa using h)]
      simp [State.onPort, PerPort.put_put]
    next => exact absurd h (by simp)

/-- Bytes whose last one ends a frame, on an idle host line. -/
theorem hostBytes_heard {bytes : List Byte} {last : Byte} {r : Receiver} {heard : Heard} (hidle : s.link.rx = .hunting)
    (h : Receiver.hunting.through bytes = some r) (hlast : receiveByte r last = (.hunting, heard)) :
    hostBytes (bytes ++ [last]) s = hostHeard heard s := by
  have hself : (s.onLink fun l => { l with rx := .hunting }) = s := by
    rw [← hidle]
    rfl
  rw [hostBytes_through [last] s (hidle ▸ h)]
  simp only [hostBytes, State.onLink, hlast]
  have hself' : { s with link := { s.link with rx := .hunting } } = s := hself
  rw [hself']
  cases hostHeard heard s <;> rfl

theorem moduleIdle_of_hunting (h : (s.port p).rx = .hunting) : moduleIdle p s = s := by
  rw [moduleIdle, ← h]
  exact State.onPort_id rfl

theorem moduleBytes_heard {bytes : List Byte} {last : Byte} {r : Receiver} {heard : Heard}
    (hidle : (s.port p).rx = .hunting) (h : Receiver.hunting.through bytes = some r)
    (hlast : receiveByte r last = (.hunting, heard)) : moduleBytes p (bytes ++ [last]) s = moduleHeard p heard s := by
  rw [moduleBytes_through [last] s (hidle ▸ h)]
  have hself : ((s.onPort p fun c => { c with rx := r }).onPort p fun c => { c with rx := .hunting }) = s := by
    rw [← moduleIdle_of_hunting hidle]
    simp [moduleIdle, State.onPort, PerPort.put_put]
  simp only [moduleBytes, State.onPort_port_self, hlast, hself]
  cases moduleHeard p heard s <;> rfl

theorem Frame.line_eq (f : Frame) : f.line =
    (0xA5 :: byteOf (f.payload.length + 1) :: f.type :: (f.payload ++ [(crc16 f.body).extractLsb' 8 8]))
      ++ [(crc16 f.body).extractLsb' 0 8] := by
  simp [Frame.line, Frame.body, wordBytes]

/-- A whole frame's last byte makes it a good frame. -/
theorem receiveByte_line (f : Frame) (h : f.payload.length ≤ 199) :
    receiveByte (.collecting (byteOf (f.payload.length + 1) :: f.type
      :: (f.payload ++ [(crc16 f.body).extractLsb' 8 8]))) ((crc16 f.body).extractLsb' 0 8) = (.hunting, .good f) := by
  rw [receiveByte_last _ _ _ _ h, wordOf_bytes]
  exact congrArg _ (if_pos rfl)

/-- Settles O21. -/
theorem hostLineBytes : Obligations.HostLineBytes := by
  unfold Obligations.HostLineBytes
  refine ⟨fun s f hidle hshort => ?_, fun s type hi lo payload hidle hshort hcrc => ?_, fun s len hidle hlen => ?_,
    fun s bytes hidle hnone => ?_, fun s => ⟨fun hidle => ?_, fun bytes hrx => ?_⟩⟩
  · have hself : lineIdle s = s := by
      rw [lineIdle, ← hidle]
      rfl
    have hframe : exec (.hostFrameReceived f.line) s = outcomeOf (hostFrame f s) := by
      show outcomeOf (hostBytes f.line s) = _
      rw [f.line_eq, hostBytes_heard hidle (through_frame _ _ _ hshort) (receiveByte_line f hshort), hostHeard,
        hostFrame]
      exact congrArg (fun t => outcomeOf (frameArrives f t)) hself.symm
    refine ⟨hframe, fun hheld hroom => ?_⟩
    rw [hframe, hostFrame_held f s hheld, outcomeOf_some]
    simp only [State.onLink, hroom, if_true, hidle]
  · have hbytes : 0xA5 :: byteOf (payload.length + 1) :: type :: (payload ++ [hi, lo]) =
        (0xA5 :: byteOf (payload.length + 1) :: type :: (payload ++ [hi])) ++ [lo] := by simp
    show outcomeOf (hostBytes _ s) = _
    rw [hbytes, hostBytes_heard hidle (through_frame _ _ _ hshort) (receiveByte_last _ _ _ _ hshort),
      if_neg (show ¬ _ = wordOf hi lo from hcrc)]
    rfl
  · show outcomeOf (hostBytes ([0xA5] ++ [len]) s) = _
    rw [hostBytes_heard hidle (r := .collecting []) rfl (receiveByte_badLength hlen)]
    rfl
  · show outcomeOf (hostBytes bytes s) = _
    rw [← List.append_nil bytes, hostBytes_through (r := s.link.rx) [] s (by rw [hidle, through_no_start hnone])]
    rfl
  · simp [exec, execReceiveGap, hostGap, hidle]
  · simp [exec, execReceiveGap, hostGap, hrx, State.onLink]

/-- Settles O22. -/
theorem moduleLineBytes : Obligations.ModuleLineBytes := by
  unfold Obligations.ModuleLineBytes
  refine ⟨fun s p f hidle hshort => ?_, fun s p type hi lo payload hidle hshort hcrc => ?_, fun s p len hidle hlen => ?_,
    fun s p => rfl, fun s p type payload htype => ?_⟩
  · show outcomeOf (moduleBytes p f.line s) = outcomeOf (moduleNotice p (parseNotice f) s)
    rw [f.line_eq, moduleBytes_heard hidle (through_frame _ _ _ hshort) (receiveByte_line f hshort), moduleHeard]
    conv_lhs => rw [← moduleIdle_of_hunting hidle]
    unfold moduleNotice moduleIdle
    cases parseNotice f <;> rfl
  · have hbytes : 0xA5 :: byteOf (payload.length + 1) :: type :: (payload ++ [hi, lo]) =
        (0xA5 :: byteOf (payload.length + 1) :: type :: (payload ++ [hi])) ++ [lo] := by simp
    show outcomeOf (moduleBytes p _ s) = _
    rw [hbytes, moduleBytes_heard hidle (through_frame _ _ _ hshort) (receiveByte_last _ _ _ _ hshort),
      if_neg (show ¬ _ = wordOf hi lo from hcrc)]
    rfl
  · show outcomeOf (moduleBytes p ([0xA5] ++ [len]) s) = _
    rw [moduleBytes_heard hidle (r := .collecting []) rfl (receiveByte_badLength hlen)]
    rfl
  · have hnone : parseNotice ⟨type, payload⟩ = none := by
      unfold parseNotice
      dsimp only
      generalize type.toNat = n at htype
      split <;> first | rfl | (exfalso; omega)
    show outcomeOf (moduleNotice p (parseNotice ⟨type, payload⟩) s) = _
    rw [hnone]
    rfl

/-! ## A frame leaves the host line -/

theorem exec_outboundFrameSent {f : OutFrame} {rest : List OutFrame} (h : s.link.outbound = f :: rest)
    (hreset : s.link.resetPending = false) : exec .outboundFrameSent s =
      outcomeOf (serveWaiting { s with link := captureFlags { s.link with outbound := rest } }) := by
  show outcomeOf (frameSent s) = _
  have hno : (s.link.resetPending && isResetReply f) = false := by rw [hreset, Bool.false_and]
  simp only [frameSent, h, hno, Bool.false_eq_true, if_false]
  rfl

/-- The link after its head frame has left, as the next frame is a reply or not. -/
theorem captureFlags_left {rest : List OutFrame} {left : Link} {l : Link}
    (h : (∃ r tail, rest = .reply r :: tail ∧ left = { l with
        outbound := .reply { r with frameError := l.frameError, overrun := l.overrun } :: tail,
        frameError := false, overrun := false })
      ∨ ((∀ r tail, rest ≠ .reply r :: tail) ∧ left = { l with outbound := rest })) :
    captureFlags { l with outbound := rest } = left := by
  rcases h with ⟨r, tail, rfl, rfl⟩ | ⟨hother, rfl⟩
  · rfl
  · unfold captureFlags
    split
    next r tail hr => exact absurd hr (hother r tail)
    next => rfl

/-- The newest of the waiting requests, as if it had just come. -/
theorem serveWaiting_newest {waiting : List Frame} {g : Frame} {l : Link} (s : State)
    (hwaiting : l.inbound = waiting ++ [g]) (hroom : waiting.length < 4) (hrx : l.rx = .hunting) :
    serveWaiting { s with link := l } = hostFrame g { s with link := { l with inbound := waiting } } := by
  obtain ⟨rx, inbound, outbound, frameError, overrun, pendingSet, resetPending⟩ := l
  subst hwaiting hrx
  exact congrArg serveWaiting (if_pos (c := waiting.length < 4) hroom).symm

/-- Settles O23. -/
theorem frameLeaves : Obligations.FrameLeaves := by
  unfold Obligations.FrameLeaves
  refine ⟨fun s hempty => ?_, fun s f rest left hhead hreset hleft => ?_,
    fun s f rest r g hhead hroom hreset hstore hinbound htype => ?_, fun s r rest hhead hreset htype hcode => ?_⟩
  · show outcomeOf (frameSent s) = _
    simp [frameSent, hempty]
  · have hcaptured := captureFlags_left hleft
    have hkept : left.inbound = s.link.inbound ∧ left.rx = s.link.rx := by
      rcases hleft with ⟨r, tail, -, rfl⟩ | ⟨-, rfl⟩ <;> exact ⟨rfl, rfl⟩
    rw [exec_outboundFrameSent hhead hreset, hcaptured]
    refine ⟨fun hnone => ?_, fun waiting g hwaiting hlength hrx => ?_⟩
    · rw [serveWaiting_none (by simp [hkept, hnone])]
      rfl
    · have hnewest : outcomeOf (serveWaiting { s with link := left }) =
          outcomeOf (hostFrame g { s with link := { left with inbound := waiting } }) := by
        rw [serveWaiting_newest s (hkept.1.trans hwaiting) hlength (hkept.2.trans hrx)]
      refine ⟨hnewest, fun q hq => ?_⟩
      rw [hnewest, hq, exec_command]
      rfl
  · obtain ⟨type, payload⟩ := g
    subst htype
    have hparse : parseRequest ⟨0x10, payload⟩ = .request .readPending := rfl
    rw [exec_outboundFrameSent hhead hreset]
    have htake : canTake { s with link := captureFlags { s.link with outbound := .report r :: rest } } = true := by
      simp [canTake, captureFlags, hinbound, hreset, hstore]
      omega
    simp only [serveWaiting, captureFlags, hinbound, List.length_singleton, takeRequests] at htake ⊢
    rw [if_pos htake]
    simp only [takeHead, serveFrame, hparse]
    rfl
  · have hreply : isResetReply (.reply r) = true := by simp [isResetReply, htype, hcode]
    show ∃ t, outcomeOf (frameSent s) = .next t ∧ _
    have hsent : frameSent s = some (startUp .link s) := by simp [frameSent, hhead, hreset, hreply]
    rw [hsent, startUp_eq]
    rw [raise_eq]
    exact ⟨_, rfl, rfl, rfl, rfl, rfl, rfl, rfl, rfl, rfl, _, rfl⟩

end Sys2Proof.Machine
end

section
/-! What the Survey Timer's events leave alone: what comes to the host link, the Supply Monitor's interval and the notices of the
campaign's return to IDLE. An event of the last tick that is finished first (log 31) does the same whatever these
hold. -/

namespace Sys2Proof.Machine

variable {s : State} {p : Port}

/-- What no order, report or hold depends on. -/
structure Aside where
  rx : Receiver
  inbound : List Frame
  resetPending : Bool
  converting : Bool
  interval : Nat
  idleNotices : Nat

/-- The state with these put in. -/
def State.aside (a : Aside) (s : State) : State :=
  { s with
    link := { s.link with rx := a.rx, inbound := a.inbound, resetPending := a.resetPending }
    supply := { s.supply with converting := a.converting, interval := a.interval, idleNotices := a.idleNotices } }

variable {a : Aside}

@[simp] theorem aside_port (s : State) (p : Port) : (s.aside a).port p = s.port p := rfl

@[simp] theorem aside_blocks (s : State) : (s.aside a).campaign = s.campaign ∧ (s.aside a).table = s.table
    ∧ (s.aside a).cfg = s.cfg ∧ (s.aside a).survey = s.survey ∧ (s.aside a).ports = s.ports
    ∧ (s.aside a).serial = s.serial ∧ (s.aside a).board = s.board ∧ (s.aside a).supply.mode = s.supply.mode
    ∧ (s.aside a).supply.halt = s.supply.halt ∧ (s.aside a).link.outbound = s.link.outbound := ⟨rfl, rfl, rfl, rfl, rfl, rfl, rfl, rfl, rfl, rfl⟩

@[simp] theorem aside_onPort (f : PortContext → PortContext) (s : State) :
    (s.aside a).onPort p f = (s.onPort p f).aside a := rfl

@[simp] theorem aside_onCampaign (f : Campaign → Campaign) (s : State) :
    (s.aside a).onCampaign f = (s.onCampaign f).aside a := rfl

@[simp] theorem aside_onTable (f : NetTable → NetTable) (s : State) :
    (s.aside a).onTable f = (s.onTable f).aside a := rfl

@[simp] theorem aside_onSurvey (f : Survey → Survey) (s : State) :
    (s.aside a).onSurvey f = (s.onSurvey f).aside a := rfl

@[simp] theorem raise_aside (r : Report) (s : State) : raise r (s.aside a) = (raise r s).aside a := by
  unfold raise
  cases r.cls with
  | none => rfl
  | some c =>
    have hroom : ((s.aside a).cfg.mask.has c && decide ((s.aside a).link.outbound.length ≤ 6)) =
        (s.cfg.mask.has c && decide (s.link.outbound.length ≤ 6)) := rfl
    dsimp only
    rw [hroom]
    split <;> rfl

@[simp] theorem clearStandby_aside (reason : StandbyReason) (s : State) :
    clearStandby reason (s.aside a) = (clearStandby reason s).aside a := by
  unfold clearStandby
  rw [(aside_blocks s).1]
  cases s.campaign.standby with
  | none => rfl
  | some b =>
    dsimp only
    rw [← raise_aside]
    rfl

@[simp] theorem setAttachment_aside (x : Attachment) (s : State) :
    setAttachment p x (s.aside a) = (setAttachment p x s).aside a := by
  unfold setAttachment dropCallbackPort
  dsimp only
  simp only [aside_onPort, aside_blocks]
  (repeat' split) <;> rfl

@[simp] theorem setCall_aside (x : CallState) (s : State) :
    setCall p x (s.aside a) = (setCall p x s).aside a := by
  unfold setCall
  dsimp only
  simp only [aside_onPort, aside_port, isStandbyPort, aside_blocks, clearStandby_aside, ← apply_ite (State.aside a),
    aside_onCampaign]
  rfl

@[simp] theorem sendOrder_aside (o : Order) (s : State) :
    sendOrder p o (s.aside a) = (sendOrder p o s).aside a := by
  unfold sendOrder
  dsimp only
  split <;> simp only [aside_onPort, aside_port, setCall_aside, setAttachment_aside] <;> split <;> rfl

@[simp] theorem sendNext_aside (s : State) : sendNext p (s.aside a) = (sendNext p s).aside a := by
  unfold sendNext
  rw [aside_port]
  split
  · cases (s.port p).queue with
    | nil => rfl
    | cons o rest =>
      dsimp only
      rw [aside_onPort, sendOrder_aside]
  · rfl

@[simp] theorem tellDropped_aside (orders : List Order) (s : State) :
    tellDropped p orders (s.aside a) = (tellDropped p orders s).aside a := by
  induction orders generalizing s with
  | nil => rfl
  | cons o rest ih =>
    unfold tellDropped
    split
    · rw [show ∀ tag, surveyScanEnds p tag .dropped (s.aside a) = (surveyScanEnds p tag .dropped s).aside a by
        intro tag
        unfold surveyScanEnds
        rw [(aside_blocks s).2.2.2.1]
        split <;> rfl, ih]
    all_goals exact ih s

@[simp] theorem makeRoom_aside (s : State) : makeRoom p (s.aside a) = (makeRoom p s).aside a := by
  unfold makeRoom
  rw [aside_port, (aside_blocks s).1]
  split
  · rfl
  · dsimp only
    rw [aside_onPort, tellDropped_aside, setAttachment_aside]
    split <;> rfl

@[simp] theorem placeOrder_aside (o : Order) (s : State) :
    placeOrder p o (s.aside a) = (placeOrder p o s).aside a := by
  have hregistering : ∀ u : State, registering p o (u.aside a) = (registering p o u).aside a := fun u => by
    unfold registering
    split <;> simp
  unfold placeOrder
  dsimp only
  rw [aside_onPort, hregistering, sendNext_aside, aside_port]
  split <;> rfl

@[simp] theorem acceptOrder_aside (o : Order) (s : State) :
    acceptOrder p o (s.aside a) = (acceptOrder p o s).aside a := by
  unfold acceptOrder sendWake
  simp only [aside_port, sendOrder_aside, placeOrder_aside, makeRoom_aside]
  (repeat' split) <;> rfl

@[simp] theorem answerFor_aside (o : Order) (s : State) : answerFor p o (s.aside a) = answerFor p o s := rfl

@[simp] theorem submitAll_aside (orders : List Order) (s : State) :
    submitAll p orders (s.aside a) = ((submitAll p orders s).1, (submitAll p orders s).2.aside a) := by
  induction orders generalizing s with
  | nil => rfl
  | cons o rest ih =>
    unfold submitAll
    rw [answerFor_aside, acceptOrder_aside, ih]
    split <;> rfl

@[simp] theorem createStandby_aside (i : TableSlot) (q : Port) (x : StandbyStatus) (s : State) :
    createStandby i q x (s.aside a) = (createStandby i q x s).aside a := by
  unfold createStandby raiseStandby
  rw [← raise_aside]
  rfl

@[simp] theorem prepareStandby_aside (i : TableSlot) (e : Entry) (s : State) :
    prepareStandby i e (s.aside a) = (prepareStandby i e s).aside a := by
  unfold prepareStandby
  rw [aside_port]
  split
  · exact createStandby_aside _ _ _ _
  · rw [createStandby_aside]
    rfl
  · dsimp only
    rw [createStandby_aside, submitAll_aside, clearStandby_aside]
    simp only [aside_blocks]
    split <;> rfl

@[simp] theorem seekStandby_aside (s : State) : seekStandby (s.aside a) = (seekStandby s).aside a := by
  have hgrant : ∀ i, grantHold .standby i (s.aside a) = (grantHold .standby i s).aside a := fun _ => rfl
  unfold seekStandby
  rw [show seeksStandby (s.aside a) = seeksStandby s from rfl,
    show standbyCandidate (s.aside a) (s.aside a).campaign.callPort = standbyCandidate s s.campaign.callPort from rfl]
  split
  · split
    · rfl
    · rw [(aside_blocks s).2.1]
      split
      · rfl
      · rw [aside_port, hgrant, prepareStandby_aside]
        split <;> rfl
  · rfl

@[simp] theorem periodEnds_aside (s : State) : periodEnds (s.aside a) = (periodEnds s).aside a := by
  have hdecay : ∀ u : State, decayFailures (u.aside a) = (decayFailures u).aside a := fun _ => rfl
  unfold periodEnds
  dsimp only
  simp only [aside_blocks, aside_onSurvey, raise_aside, hdecay, seekStandby_aside]

@[simp] theorem compareMatches_aside (s : State) : compareMatches p (s.aside a) = (compareMatches p s).aside a := by
  have hrecord : ∀ r (u : State), recordMatch p r (u.aside a) = (recordMatch p r u).aside a := fun _ _ => rfl
  have hreason : ∀ u : State, skipReason (u.aside a) p = skipReason u p := fun _ => rfl
  unfold compareMatches
  dsimp only
  rw [aside_onSurvey, hreason]
  split
  · exact hrecord _ _
  · simp only [aside_blocks, answerFor_aside, acceptOrder_aside, hrecord]
    split <;> rfl

@[simp] theorem takeMatch_aside (s : State) : takeMatch p (s.aside a) = (takeMatch p s).aside a := by
  unfold takeMatch
  rw [compareMatches_aside, (aside_blocks s).2.2.2.1]
  split <;> rfl

theorem eachPort_takeMatch_aside (ports : List Port) (s : State) :
    eachPort takeMatch ports (s.aside a) = (eachPort takeMatch ports s).aside a := by
  induction ports generalizing s with
  | nil => rfl
  | cons q rest ih => rw [eachPort, takeMatch_aside, ih, eachPort]

@[simp] theorem finishStep_aside (s : State) : finishStep (s.aside a) = (finishStep s).aside a := by
  unfold finishStep
  rw [(aside_blocks s).2.2.2.1, periodEnds_aside, ← eachPort_takeMatch_aside]
  split <;> rfl

/-! ## What else those events keep -/

/-- What commutes with putting the things aside leaves them as they are. -/
def State.own (s : State) : Aside := ⟨s.link.rx, s.link.inbound, s.link.resetPending, s.supply.converting, s.supply.interval, s.supply.idleNotices⟩

theorem own_of_aside {op : State → State} (h : ∀ a, op (s.aside a) = (op s).aside a) : (op s).own = s.own := by
  conv_lhs => rw [show s = s.aside s.own from rfl, h]
  rfl

/-- The Survey Timer without its records. -/
def Survey.timer (v : Survey) : Survey := { v with records := allPorts .none }

theorem tellDropped_timer (orders : List Order) (s : State) :
    (tellDropped p orders s).survey.timer = s.survey.timer := by
  induction orders generalizing s with
  | nil => rfl
  | cons o rest ih =>
    unfold tellDropped
    split
    · rw [ih]
      unfold surveyScanEnds
      split <;> rfl
    all_goals exact ih s

theorem makeRoom_timer (s : State) : (makeRoom p s).survey.timer = s.survey.timer := by
  unfold makeRoom
  split
  · rfl
  · dsimp only
    split
    · rw [(setAttachment_frame _ _ _).2.2.1, tellDropped_timer]
      rfl
    · rw [tellDropped_timer]
      rfl

theorem acceptOrder_timer (o : Order) (s : State) : (acceptOrder p o s).survey.timer = s.survey.timer := by
  unfold acceptOrder
  split
  · simp
  · split
    · simp
    · simp [makeRoom_timer]

theorem submitAll_timer (orders : List Order) (s : State) :
    (submitAll p orders s).2.survey.timer = s.survey.timer := by
  induction orders generalizing s with
  | nil => rfl
  | cons o rest ih =>
    unfold submitAll
    split
    · rw [ih, acceptOrder_timer]
    · rfl

theorem seekStandby_timer (s : State) : (seekStandby s).survey.timer = s.survey.timer := by
  have hprepare : ∀ i e (u : State), (prepareStandby i e u).survey.timer = u.survey.timer := by
    intro i e u
    unfold prepareStandby
    split
    · simp
    · simp
    · dsimp only
      split <;> simp [submitAll_timer]
  unfold seekStandby
  (repeat' split) <;> simp [hprepare]

/-- The state a campaign is in is no matter of a port's orders. -/
theorem setAttachment_state (x : Attachment) (s : State) :
    (setAttachment p x s).campaign.state = s.campaign.state := by
  unfold setAttachment dropCallbackPort
  dsimp only
  (repeat' split) <;> rfl

theorem setCall_state (x : CallState) (s : State) : (setCall p x s).campaign.state = s.campaign.state := by
  unfold setCall clearStandby
  dsimp only
  (repeat' split) <;> simp [withdrawHold]

theorem sendOrder_state (o : Order) (s : State) : (sendOrder p o s).campaign.state = s.campaign.state := by
  unfold sendOrder
  dsimp only
  (repeat' split) <;> simp [setCall_state, setAttachment_state]

theorem placeOrder_state (o : Order) (s : State) : (placeOrder p o s).campaign.state = s.campaign.state := by
  have hregistering : ∀ u : State, (registering p o u).campaign.state = u.campaign.state := fun u => by
    unfold registering
    split <;> simp [setAttachment_state]
  unfold placeOrder sendNext
  dsimp only
  (repeat' split) <;> simp [sendOrder_state, hregistering]

theorem acceptOrder_state (o : Order) (s : State) : (acceptOrder p o s).campaign.state = s.campaign.state := by
  unfold acceptOrder makeRoom sendWake
  (repeat' split) <;> simp [placeOrder_state, sendOrder_state, setAttachment_state]

/-! ## The last tick's step finished first (08 R154; log 31) -/

theorem periodEnds_survey (s : State) : (periodEnds s).survey.periodEndDue = false := by
  have h := congrArg Survey.periodEndDue (seekStandby_timer (decayFailures
    ((raise (.periodEnd ((s.survey.periodEnds + 1) % 65536) s.cfg.period s.cfg.compares s.survey.records)
      (s.onSurvey fun v => { v with periodEnds := (s.survey.periodEnds + 1) % 65536, periodEndDue := false })).onSurvey
        fun v => { v with records := allPorts .none, inForce := s.cfg.compares })))
  refine h.trans ?_
  simp [decayFailures, Survey.timer]

theorem compareMatches_survey (p : Port) (s : State) :
    (compareMatches p s).survey.periodEndDue = s.survey.periodEndDue
      ∧ (compareMatches p s).survey.matchDue = s.survey.matchDue.put p false := by
  have hrecord : ∀ r (u : State), (recordMatch p r u).survey.timer = u.survey.timer := fun _ _ => rfl
  have h : (compareMatches p s).survey.timer = { s.survey.timer with matchDue := s.survey.matchDue.put p false } := by
    unfold compareMatches
    dsimp only
    (repeat' split) <;> simp only [hrecord, acceptOrder_timer] <;> rfl
  have hend := congrArg Survey.periodEndDue h
  have hmatches := congrArg Survey.matchDue h
  exact ⟨hend, hmatches⟩

theorem compareMatches_state (p : Port) (s : State) :
    (compareMatches p s).campaign.state = s.campaign.state := by
  unfold compareMatches recordMatch
  dsimp only
  (repeat' split) <;> simp [acceptOrder_state]

theorem takeMatch_of_due (h : s.survey.matchDue.get p = true) : takeMatch p s = compareMatches p s := if_pos h

theorem compareMatches_supply (h : s.survey.matchDue.get p = true) : (compareMatches p s).supply = s.supply := by
  rw [← takeMatch_of_due h, takeMatch_supply]

/-- A period end taken before is not taken again. -/
theorem finishStep_periodEnds (h : s.survey.periodEndDue = true) : finishStep (periodEnds s) = finishStep s := by
  unfold finishStep
  rw [periodEnds_survey, h]
  rfl

theorem eachPort_takeMatch_of_not_due {ports : List Port} (h : ∀ q ∈ ports, s.survey.matchDue.get q = false) :
    eachPort takeMatch ports s = s := by
  induction ports with
  | nil => rfl
  | cons q rest ih =>
    rw [eachPort, takeMatch_of_not_due (h q (List.mem_cons_self ..)), ih fun r hr => h r (List.mem_cons_of_mem _ hr)]

theorem eachPort_append (f : Port → State → State) (before after : List Port) (s : State) :
    eachPort f (before ++ after) s = eachPort f after (eachPort f before s) := by
  induction before generalizing s with
  | nil => rfl
  | cons q rest ih => exact ih _

theorem portList_split (p : Port) : ∃ before after, portList = before ++ p :: after
    ∧ ∀ q ∈ before, portNumber q < portNumber p := by
  cases p
  · exact ⟨[], [.p1, .p2, .p3], rfl, by simp⟩
  · exact ⟨[.p0], [.p2, .p3], rfl, by simp [portNumber]⟩
  · exact ⟨[.p0, .p1], [.p3], rfl, by simp [portNumber]⟩
  · exact ⟨[.p0, .p1, .p2], [], rfl, by simp [portNumber]⟩

/-- The first of the matches that are due, taken before, is not taken again. -/
theorem finishStep_compareMatches (hperiod : s.survey.periodEndDue = false) (hdue : s.survey.matchDue.get p = true)
    (hfirst : ∀ q, portNumber q < portNumber p → s.survey.matchDue.get q = false) :
    finishStep (compareMatches p s) = finishStep s := by
  obtain ⟨before, after, hsplit, hlower⟩ := portList_split p
  obtain ⟨hend, hmatches⟩ := compareMatches_survey p s
  have hbefore : ∀ q ∈ before, s.survey.matchDue.get q = false := fun q hq => hfirst q (hlower q hq)
  have htaken : ∀ q, q ∈ before ∨ q = p → (compareMatches p s).survey.matchDue.get q = false := by
    intro q hq
    rw [hmatches]
    by_cases hqp : q = p
    · rw [hqp, PerPort.get_put_self]
    · rw [PerPort.get_put_of_ne _ _ hqp]
      exact hbefore q (hq.resolve_right hqp)
  unfold finishStep
  rw [hend, hperiod, if_neg (by simp), if_neg (by simp), hsplit, eachPort_append, eachPort_append,
    eachPort_takeMatch_of_not_due hbefore, eachPort_takeMatch_of_not_due fun q hq => htaken q (.inl hq),
    eachPort, eachPort, takeMatch_of_due hdue, takeMatch_of_not_due (htaken p (.inr rfl))]

/-! ## HOLD and RELEASE (08 R162) -/

theorem lineIdle_eq_aside (s : State) : lineIdle s = s.aside { s.own with rx := .hunting } := rfl

theorem periodEnds_lineIdle (s : State) : periodEnds (lineIdle s) = lineIdle (periodEnds s) := by
  rw [lineIdle_eq_aside, lineIdle_eq_aside, periodEnds_aside, own_of_aside fun a => periodEnds_aside s]

theorem compareMatches_lineIdle (p : Port) (s : State) :
    compareMatches p (lineIdle s) = lineIdle (compareMatches p s) := by
  rw [lineIdle_eq_aside, lineIdle_eq_aside, compareMatches_aside, own_of_aside fun a => compareMatches_aside s]

/-- An event that reports by R185's test and keeps what waits leaves a ready link ready. -/
theorem LinkReady.kept {t : State} (h : LinkReady s) (hgrows : s.link.Grows t.link) (hown : t.own = s.own)
    (hstore : t.store = s.store) : LinkReady t := by
  obtain ⟨hinbound, hroom, hwriting, hreset⟩ := h
  have := hgrows.room
  exact ⟨(congrArg Aside.inbound hown).trans hinbound, by omega, by rw [hstore, hwriting],
    (congrArg Aside.resetPending hown).trans hreset⟩

theorem exec_surveyHold (h : LinkReady s) : exec .surveyHold s = .next
    (placeReply 0x87 .ok (holdContents (holdByHost (lineIdle s))) (holdByHost (lineIdle s))) :=
  exec_answered (r := .surveyHold) h rfl (by simp) rfl

theorem holdByHost_congr {t : State} (h : finishStep t = finishStep s) : holdByHost t = holdByHost s := by
  rw [holdByHost, h, holdByHost]

theorem exec_periodEnd (h : s.survey.periodEndDue = true) : exec .periodEnd s = .next (periodEnds s) := by
  simp only [exec, execPeriodEnd, takeIfDue_of_due (e := .periodEnd) (s := s) h, takeDue, outcomeOf_some]

theorem exec_compareMatch (h : s.survey.matchDue.get p = true) :
    exec (.compareMatch p) s = .next (compareMatches p s) := by
  simp only [exec, execCompareMatch, takeIfDue_of_due (e := .compareMatch p) (s := s) h, takeDue, outcomeOf_some]

/-! ## SET_SURVEY (08 R159 to R161) -/

theorem policyOf?_keepWarm : policyOf? 1 = some .keepWarm := rfl

theorem policyOf?_onDemand : policyOf? 2 = some .onDemand := rfl

theorem policyOf?_other {b : Byte} (h1 : b ≠ 1) (h2 : b ≠ 2) : policyOf? b = none := by
  rw [policyOf?, if_neg h1, if_neg h2]

theorem policiesOf?_of_all {q : PerPort Byte} {policies : PerPort Policy}
    (h : ∀ p, (q.get p = 1 ∧ policies.get p = .keepWarm) ∨ (q.get p = 2 ∧ policies.get p = .onDemand)) :
    policiesOf? q = some policies := by
  have hread : ∀ p, policyOf? (q.get p) = some (policies.get p) := fun p => by
    rcases h p with ⟨hq, hp⟩ | ⟨hq, hp⟩
    · rw [hq, hp, policyOf?_keepWarm]
    · rw [hq, hp, policyOf?_onDemand]
  have h0 : policyOf? q.p0 = some policies.p0 := hread .p0
  have h1 : policyOf? q.p1 = some policies.p1 := hread .p1
  have h2 : policyOf? q.p2 = some policies.p2 := hread .p2
  have h3 : policyOf? q.p3 = some policies.p3 := hread .p3
  simp only [policiesOf?, h0, h1, h2, h3]

theorem policiesOf?_none {q : PerPort Byte} (p : Port) (h1 : q.get p ≠ 1) (h2 : q.get p ≠ 2) :
    policiesOf? q = none := by
  have hnone := policyOf?_other h1 h2
  unfold policiesOf?
  split
  next a b c d ha hb hc hd =>
    cases p
    · exact absurd ha (by rw [show q.p0 = q.get .p0 from rfl, hnone]; simp)
    · exact absurd hb (by rw [show q.p1 = q.get .p1 from rfl, hnone]; simp)
    · exact absurd hc (by rw [show q.p2 = q.get .p2 from rfl, hnone]; simp)
    · exact absurd hd (by rw [show q.p3 = q.get .p3 from rfl, hnone]; simp)
  next => rfl

/-- What SET_SURVEY makes of the period, the compares and the compares in force. -/
theorem applySurvey_eq {args : SurveyArgs} {read : Option (PerPort Policy)} {period : Nat}
    {compares inForce : PerPort Nat}
    (habsent : args.period = none → period = s.cfg.period)
    (hperiod : ∀ w, args.period = some w → period = max 30 (min 4095 w.toNat))
    (hkept : args.compares = none → compares = s.cfg.compares ∧ inForce = s.survey.inForce)
    (hcompares : ∀ c, args.compares = some c → (∀ p, compares.get p = min 4095 (c.get p).toNat)
      ∧ inForce = if s.survey.holdHost = true ∨ s.survey.holdHalt = true then compares else s.survey.inForce) :
    applySurvey args read s = { s with
      cfg := { s.cfg with period := period, compares := compares, policies := read.getD s.cfg.policies }
      survey := { s.survey with inForce := inForce } } := by
  have hconfig : newSurveyConfig args read s.cfg =
      { s.cfg with period := period, compares := compares, policies := read.getD s.cfg.policies } := by
    have hp : (args.period.map fun w => clampNat 30 4095 w.toNat).getD s.cfg.period = period := by
      cases hw : args.period with
      | none => exact (habsent hw).symm
      | some w => exact (clampNat_eq (by omega)).trans (hperiod w hw).symm
    have hc : (args.compares.map fun c => c.map fun w => clampNat 0 4095 w.toNat).getD s.cfg.compares = compares := by
      cases hw : args.compares with
      | none => exact (hkept hw).1.symm
      | some c =>
        refine PerPort.ext_get fun p => ?_
        rw [(hcompares c hw).1 p, Option.map_some, Option.getD_some, PerPort.get_map, clampNat_eq (by omega)]
        exact Nat.zero_max _
    rw [newSurveyConfig, hp, hc]
  unfold applySurvey
  dsimp only
  cases hw : args.compares with
  | none =>
    rw [(hkept hw).2]
    simp only [State.onConfig, hconfig]
    rfl
  | some c =>
    have hinForce := (hcompares c hw).2
    simp only [State.onConfig, hconfig]
    by_cases hheld : s.survey.holdHost = true ∨ s.survey.holdHalt = true
    · have hrunning : s.survey.running = false := by
        rcases hheld with h | h <;> simp [Survey.running, h]
      rw [if_pos hheld] at hinForce
      rw [hrunning, hinForce]
      rfl
    · have hrunning : s.survey.running = true := by
        simpa [Survey.running] using hheld
      rw [if_neg hheld] at hinForce
      rw [hrunning, hinForce]
      rfl

/-- Settles O29. -/
theorem surveySet : Obligations.SurveySet := by
  unfold Obligations.SurveySet
  refine ⟨fun s a period compares inForce policies hready habsent hperiod hkept hcompares hold hpolicies => ?_,
    fun s a q p hready hq h1 h2 => ?_, fun s hready => ⟨fun hperiod hmatches => ?_, fun hdue => ?_,
      fun p hperiod hdue hfirst => ?_, ?_⟩⟩
  · have happly : ∀ read : Option (PerPort Policy), read.getD s.cfg.policies = policies →
        applySurvey a read (lineIdle s) = { lineIdle s with
          cfg := { s.cfg with period := period, compares := compares, policies := policies }
          survey := { s.survey with inForce := inForce } } := fun read hread => by
      rw [applySurvey_eq (s := lineIdle s) (by exact habsent) hperiod (by exact hkept) (by exact hcompares), ← hread]
      rfl
    refine exec_answered (r := .setSurvey a) hready rfl (by simp) ?_
    simp only [handle, handleSetSurvey]
    split
    next hnone =>
      rw [happly none (hold hnone).symm]
      rfl
    next q hq =>
      rw [policiesOf?_of_all (hpolicies q hq)]
      dsimp only
      rw [happly (some policies) rfl]
      rfl
  · refine exec_answered (r := .setSurvey a) hready rfl (by simp) ?_
    simp only [handle, handleSetSurvey, hq, policiesOf?_none p h1 h2]
    rfl
  · have hfinished : finishStep (lineIdle s) = lineIdle s := finishStep_of_nothing_due hperiod hmatches
    rw [exec_surveyHold hready, holdByHost, hfinished]
    rfl
  · have hheld : holdByHost (lineIdle (periodEnds s)) = holdByHost (lineIdle s) := by
      rw [← periodEnds_lineIdle]
      exact holdByHost_congr (finishStep_periodEnds hdue)
    refine ⟨_, exec_periodEnd hdue, ?_⟩
    rw [exec_surveyHold hready, exec_surveyHold (hready.kept (periodEnds_grows s)
      (own_of_aside fun a => periodEnds_aside s) (congrArg (fun x => x.2.1) (periodEnds_frame s))), hheld]
  · have hheld : holdByHost (lineIdle (compareMatches p s)) = holdByHost (lineIdle s) := by
      rw [← compareMatches_lineIdle]
      exact holdByHost_congr (finishStep_compareMatches hperiod hdue hfirst)
    refine ⟨_, exec_compareMatch hdue, ?_⟩
    rw [exec_surveyHold hready, exec_surveyHold (hready.kept (compareMatches_grows p s)
      (own_of_aside fun a => compareMatches_aside s) (congrArg (fun x => x.2.1) (compareMatches_frame p s))), hheld]
  · exact exec_answered (r := .surveyRelease) hready rfl (by simp) rfl

end Sys2Proof.Machine
end

section
/-! The entry to HALT and its end (09 R176 to R178), and a period end with its standby (08 R155; 04 R85, R86). -/

namespace Sys2Proof.Machine

variable {s : State} {p : Port}

/-! ## The ports at the entry to HALT (06 R136) -/

/-- A port's context after the entry to HALT. -/
def PortContext.halted (c : PortContext) : PortContext :=
  match c.power with
  | .on | .waking =>
    { c with
      power := .sleeping, attachment := .none, call := .none, silenceTimer := none, queue := []
      inFlight := some ⟨⟨.sleep, .port⟩, 5⟩ }
  | .sleeping => { c with attachment := .none, queue := [] }
  | .off | .fault | .dead | .disabled => c

/-- Dropped orders tell the Survey Timer at its records only. -/
theorem tellDropped_records (orders : List Order) (s : State) : ∃ records,
    tellDropped p orders s = { s with survey := { s.survey with records := records } } := by
  obtain ⟨survey, h⟩ := tellDropped_eq p orders s
  have ht : survey.timer = s.survey.timer := by
    rw [← tellDropped_timer (p := p) orders s, h]
  refine ⟨survey.records, ?_⟩
  rw [h]
  obtain ⟨counter, inForce, holdHost, holdHalt, periodEnds, records, periodEndDue, matchDue⟩ := survey
  simp only [Survey.timer, Survey.mk.injEq] at ht
  obtain ⟨h1, h2, h3, h4, h5, -, h7, h8⟩ := ht
  rw [h1, h2, h3, h4, h5, h7, h8]

theorem haltPort_eq (hroute : s.campaign.route ≠ some p) (hcallback : s.campaign.callbackPort ≠ some p) :
    ∃ records, haltPort p s =
      { s.onPort p PortContext.halted with survey := { s.survey with records := records } } := by
  unfold haltPort
  split
  case h_1 hpower | h_2 hpower =>
    unfold dropOrders
    dsimp only
    obtain ⟨records, hdropped⟩ := tellDropped_records (p := p)
      (((s.port p).inFlight.map InFlight.order).toList ++ (s.port p).queue)
      (s.onPort p fun c => { c with inFlight := none, queue := [] })
    refine ⟨records, ?_⟩
    rw [hdropped, setCall_port (.inr (.inl rfl)) (by exact hroute), sendSleep_eq (by exact hcallback) (by simp [State.port])]
    have hpower' : (s.ports.get p).power = _ := hpower
    simp [State.onPort, PortContext.halted, hpower', silenceAfter]
  case h_3 hpower =>
    obtain ⟨records, hdropped⟩ := tellDropped_records (p := p) (s.port p).queue
      (s.onPort p fun c => { c with queue := [] })
    refine ⟨records, ?_⟩
    have hpower' : (s.ports.get p).power = _ := hpower
    rw [hdropped, setAttachment_eq (.inr (by exact hcallback))]
    simp [State.onPort, PortContext.halted, hpower']
  all_goals
    next hpower =>
      have hself : s.onPort p PortContext.halted = s := State.onPort_id (by simp [PortContext.halted, hpower])
      exact ⟨s.survey.records, by rw [hself]⟩

theorem eachPort_haltPort {ports : List Port} (hroute : s.campaign.route = none)
    (hcallback : s.campaign.callbackPort = none) : ∃ records, eachPort haltPort ports s =
      { eachPort (fun q => State.onPort q PortContext.halted) ports s with
        survey := { s.survey with records := records } } := by
  induction ports generalizing s with
  | nil => exact ⟨s.survey.records, rfl⟩
  | cons q rest ih =>
    obtain ⟨records, hq⟩ := haltPort_eq (p := q) (s := s) (by simp [hroute]) (by simp [hcallback])
    obtain ⟨records', hrest⟩ := ih (s := haltPort q s) (by rw [hq]; exact hroute) (by rw [hq]; exact hcallback)
    refine ⟨records', ?_⟩
    rw [eachPort, hrest, hq, eachPort]
    have hports : ∀ (l : List Port) (u : State) (v : Survey),
        eachPort (fun q => State.onPort q PortContext.halted) l { u with survey := v } =
          { eachPort (fun q => State.onPort q PortContext.halted) l u with survey := v } := by
      intro l
      induction l with
      | nil => exact fun _ _ => rfl
      | cons r l ihl => exact fun u v => ihl (u.onPort r PortContext.halted) v
    rw [hports]

theorem eachPort_halted (s : State) : eachPort (fun q => State.onPort q PortContext.halted) portList s =
    { s with ports := PerPort.build fun q => (s.port q).halted } :=
  eachPort_eq_build fun q v hv => by
    simp only [State.onPort, hv]
    rfl

/-! ## The notice of the campaign's return to IDLE (09 R175, R176) -/

/-- One notice taken. -/
def State.noticed (s : State) : State := s.aside { s.own with idleNotices := s.supply.idleNotices - 1 }

theorem exec_campaignIdleNotice (h : 0 < s.supply.idleNotices) : exec .campaignIdleNotice s =
    .next (haltIfCutoff s.noticed) := by
  simp only [exec, execCampaignIdleNotice, takeIfDue_of_due (e := .campaignIdleNotice) (s := s)
    (decide_eq_true h), takeDue, outcomeOf_some]
  rfl

theorem haltIfCutoff_enters (hmode : s.supply.mode = .cutoff) (hidle : s.campaign.state = .idle)
    (hhalt : s.supply.halt = false) : haltIfCutoff s = enterHalt s := if_pos ⟨hmode, hidle, hhalt⟩

theorem enterHalt_congr {t : State} (h : takeStart (finishStep t) = takeStart (finishStep s)) :
    enterHalt t = enterHalt s := by
  rw [enterHalt, h, enterHalt]

theorem campaignIdleNotice_enters (hnotice : 0 < s.supply.idleNotices) (hmode : s.supply.mode = .cutoff)
    (hhalt : s.supply.halt = false) (hidle : s.campaign.state = .idle) : exec .campaignIdleNotice s =
      .next (enterHalt s.noticed) := by
  rw [exec_campaignIdleNotice hnotice, haltIfCutoff_enters (s := s.noticed) hmode hidle hhalt]

/-- An event of the last tick that the entry to HALT would finish may as well have been taken before. -/
theorem campaignIdleNotice_after {t : State} (hnotice : 0 < s.supply.idleNotices) (hmode : s.supply.mode = .cutoff)
    (hhalt : s.supply.halt = false) (hidle : s.campaign.state = .idle) (hsupply : t.supply = s.supply)
    (hstate : t.campaign.state = s.campaign.state) (hown : t.own = s.own) (h : finishStep t = finishStep s) :
    exec .campaignIdleNotice s = exec .campaignIdleNotice t := by
  rw [campaignIdleNotice_enters hnotice hmode hhalt hidle, campaignIdleNotice_enters (s := t) (by rwa [hsupply])
    (by rwa [hsupply]) (by rwa [hsupply]) (hstate.trans hidle)]
  congr 1
  refine enterHalt_congr ?_
  rw [State.noticed, State.noticed, hown, hsupply, finishStep_aside, finishStep_aside, h]

theorem conversionStarts_eq (h : s.supply.halt = false) :
    conversionStarts s = s.aside { s.own with converting := true, interval := 10 } := by
  simp [conversionStarts, State.onSupply, State.aside, State.own, h]

theorem periodEnds_idle (h : s.campaign.state = .idle) : (periodEnds s).campaign.state = s.campaign.state := by
  have hnone : ∀ u : State, u.campaign = s.campaign → seekStandby u = u := fun u hu => by
    simp [seekStandby, seeksStandby, hu, h]
  unfold periodEnds
  dsimp only
  rw [hnone _ (by simp [decayFailures])]
  simp [decayFailures]

/-- Settles O19. -/
theorem haltEnteredAndLeft : Obligations.HaltEnteredAndLeft := by
  unfold Obligations.HaltEnteredAndLeft
  refine ⟨fun s hnotice hmode hhalt hinIdle hperiod hmatches hinterval => ?_,
    fun s hnotice hmode hhalt hidle => ⟨fun hinterval => ?_, fun hdue => ?_, fun p hperiod hdue hfirst => ?_⟩,
    fun s hnotice hother => ?_, fun s code hconverting hhalt => ⟨fun hbelow => ?_, fun habove => ?_⟩⟩
  · have hidle : s.campaign.state = .idle := by rw [hinIdle]; rfl
    obtain ⟨records, hports⟩ := eachPort_haltPort (ports := portList)
      (s := s.noticed.onSupply fun m =>
        { m with halt := true, interval := 60 }) (by rw [State.onSupply_campaign, State.noticed, (aside_blocks s).1, hinIdle]; rfl)
      (by rw [State.onSupply_campaign, State.noticed, (aside_blocks s).1, hinIdle]; rfl)
    rw [eachPort_halted] at hports
    have hstart : ∀ u : State, u.supply.interval ≠ 0 → takeStart u = u := fun u hu => if_neg hu
    rw [campaignIdleNotice_enters hnotice hmode hhalt hidle, enterHalt,
      finishStep_of_nothing_due (by exact hperiod) (by exact hmatches), hstart _ (by exact hinterval)]
    dsimp only
    rw [hports]
    refine ⟨_, rfl, rfl, rfl, rfl, rfl, rfl, rfl, fun p => ?_, rfl, rfl, rfl, rfl, rfl⟩
    have hport : ∀ f : Port → PortContext, (PerPort.build f).get p = f p := fun f => by cases p <;> rfl
    simp only [holdByHalt, holdCounter, State.port, State.onSurvey_ports, hport]
    rfl
  · have hstart : exec .conversionStart s = .next (conversionStarts s) := by
      simp only [exec, execConversionStart, takeIfDue_of_due (e := .conversionStart) (s := s)
        (by simp [isDue, hinterval]), takeDue, outcomeOf_some]
    have hstarted := conversionStarts_eq hhalt
    have hsame : enterHalt (conversionStarts s).noticed = enterHalt s.noticed := by
      refine enterHalt_congr ?_
      have hbegun : takeStart (finishStep s.noticed) = conversionStarts (finishStep s.noticed) :=
        if_pos (by rw [finishStep_supply]; exact hinterval)
      have hrunning : takeStart (finishStep (conversionStarts s).noticed) = finishStep (conversionStarts s).noticed :=
        if_neg (by rw [finishStep_supply, hstarted]; exact Nat.succ_ne_zero 9)
      have hlater : (conversionStarts s).noticed = s.aside { s.own with
          converting := true, interval := 10, idleNotices := s.supply.idleNotices - 1 } := by
        rw [hstarted]
        rfl
      rw [hbegun, hrunning, hlater, finishStep_aside, State.noticed, finishStep_aside, conversionStarts_eq]
      · rfl
      · rw [(aside_blocks _).2.2.2.2.2.2.2.2.1, finishStep_supply, hhalt]
    refine ⟨_, hstart, rfl, ?_, _, campaignIdleNotice_enters hnotice hmode hhalt hidle, ?_, ?_⟩
    · rw [campaignIdleNotice_enters hnotice hmode hhalt hidle, campaignIdleNotice_enters (by exact hnotice)
        (by exact hmode) (by exact hhalt) (by exact hidle), hsame]
    · rw [enterHalt_supply]
      exact if_pos hinterval
    · rw [enterHalt_supply]
  · exact ⟨_, exec_periodEnd hdue, campaignIdleNotice_after hnotice hmode hhalt hidle (periodEnds_supply s)
      (periodEnds_idle hidle) (own_of_aside fun a => periodEnds_aside s) (finishStep_periodEnds hdue)⟩
  · exact ⟨_, exec_compareMatch hdue, campaignIdleNotice_after hnotice hmode hhalt hidle (compareMatches_supply hdue)
      (compareMatches_state p s) (own_of_aside fun a => compareMatches_aside s)
      (finishStep_compareMatches hperiod hdue hfirst)⟩
  · rw [exec_campaignIdleNotice hnotice, haltIfCutoff_other (by exact hother)]
    rfl
  · rw [exec_conversionDone hconverting]
    simp only [conversionCompletes, hhalt, if_true]
    rw [if_neg (by simpa [restartLevel, storeConversion] using hbelow), ← hhalt]
    rfl
  · rw [exec_conversionDone hconverting]
    simp only [conversionCompletes, hhalt, if_true]
    rw [if_pos (by simpa [restartLevel, storeConversion] using habove), startUp_eq, raise_eq]
    exact ⟨_, rfl, rfl, rfl, rfl, rfl, rfl, rfl, _, rfl⟩

/-! ## A period end and the standby it seeks (08 R155; 04 R85, R86) -/

/-- The state a period end reports from: counted, the records cleared, the compares in force, the failures decayed. -/
def State.periodEnded (s : State) : State :=
  { s with
    survey := { s.survey with
      periodEnds := (s.survey.periodEnds + 1) % 65536
      periodEndDue := false
      records := allPorts .none
      inForce := s.cfg.compares }
    table := s.table.onAll fun e => rescore s.cfg.preferences { e with failures := e.failures - 1 } }

/-- The report of a period end. -/
def State.periodReport (s : State) : Report :=
  .periodEnd ((s.survey.periodEnds + 1) % 65536) s.cfg.period s.cfg.compares s.survey.records

theorem periodEnds_eq (s : State) : periodEnds s =
    (seekStandby (raise s.periodReport s.periodEnded)).onSurvey fun v => { v with matchDue := matchesAt v } := by
  unfold periodEnds
  dsimp only
  rw [raise_eq, raise_eq]
  rfl

theorem seekStandby_idle (h : s.campaign.state ≠ .talk ∨ s.campaign.standby ≠ none ∨ s.cfg.tuning.standbyEnable = false
      ∨ s.supply.mode ≠ .normal ∨ standbyCandidate s s.campaign.callPort = none
      ∨ ∃ slot e, standbyCandidate s s.campaign.callPort = some slot ∧ s.table.entry slot = some e
        ∧ (s.port e.port).call ≠ .none) : seekStandby s = s := by
  unfold seekStandby
  split
  next hseeks =>
    simp only [seeksStandby, Bool.and_eq_true, beq_iff_eq, Option.isNone_iff_eq_none] at hseeks
    obtain ⟨⟨⟨hstate, hstandby⟩, henable⟩, hmode⟩ := hseeks
    rcases h with h | h | h | h | h | ⟨slot, e, hslot, he, hcall⟩
    · exact absurd hstate h
    · exact absurd hstandby h
    · rw [henable] at h
      cases h
    · exact absurd hmode h
    · rw [h]
    · simp only [hslot, he, if_neg hcall]
  next => rfl

theorem seekStandby_finds {slot : TableSlot} {e : Entry} (hstate : s.campaign.state = .talk)
    (hstandby : s.campaign.standby = none) (henable : s.cfg.tuning.standbyEnable = true)
    (hmode : s.supply.mode = .normal) (hslot : standbyCandidate s s.campaign.callPort = some slot)
    (he : s.table.entry slot = some e) (hcall : (s.port e.port).call = .none) :
    seekStandby s = prepareStandby slot e (grantHold .standby slot s) := by
  have hseeks : seeksStandby s = true := by simp [seeksStandby, hstate, hstandby, henable, hmode]
  simp only [seekStandby, hseeks, if_true, hslot, he, hcall]

/-- A standby is prepared on a port attached to its network, or brought to it (04 R86). -/
theorem prepareStandby_taken {slot : TableSlot} {e : Entry} {status : StandbyStatus} {after : PortContext}
    (h : ((s.port e.port).attachment = .attached e.net ∧ status = .ready ∧ after = s.port e.port)
      ∨ (BroughtTo s e.port slot e.net (.standby s.serial) after ∧ status = .preparing)) :
    prepareStandby slot e s = (createStandby slot e.port status s).onPort e.port fun _ => after := by
  have hport : ∀ x, (createStandby slot e.port x s).port e.port = s.port e.port := fun x => by
    simp [createStandby, raiseStandby]
  unfold prepareStandby
  dsimp only
  rcases h with ⟨hattached, rfl, rfl⟩ | ⟨hbrought, rfl⟩
  · have hready : approach (s.port e.port).attachment slot e.net = .ready := by simp [approach, hattached]
    rw [hready, State.onPort_id (hport _).symm]
  · have hmoved : BroughtTo (createStandby slot e.port .preparing s) e.port slot e.net (.standby s.serial) after :=
      hbrought.congr (hport _) (by simp [createStandby, raiseStandby]) (by simp [createStandby, raiseStandby])
    rcases hmoved.taken with ⟨happroach, hadopt⟩ | ⟨kinds, happroach, hsubmit⟩
    · rw [hport] at happroach
      rw [happroach]
      exact hadopt
    · rw [hport] at happroach
      rw [happroach]
      dsimp only
      rw [hsubmit]
      rfl

/-- Settles O15. -/
theorem periodEnds_settled : Obligations.PeriodEnds := by
  unfold Obligations.PeriodEnds
  intro s u hdue hu
  have hended : u = s.periodEnded.onSurvey fun v => { v with matchDue := matchesAt v } := hu
  subst hended
  clear hu
  refine ⟨fun hnone => ?_, fun slot e status after hstate hstandby henable hmode hslot he hcall hafter => ?_⟩
  · have hidle : seekStandby (raise s.periodReport s.periodEnded) = raise s.periodReport s.periodEnded := by
      refine seekStandby_idle ?_
      rw [raise_eq]
      rcases hnone with h | h | h | h | h | ⟨slot, e, hslot, he, hcall, -⟩
      · exact .inl h
      · exact .inr (.inl h)
      · exact .inr (.inr (.inl h))
      · exact .inr (.inr (.inr (.inl h)))
      · exact .inr (.inr (.inr (.inr (.inl h))))
      · exact .inr (.inr (.inr (.inr (.inr ⟨slot, e, hslot, he, hcall⟩))))
    rw [exec_periodEnd hdue, periodEnds_eq, hidle, raise_eq, raise_eq]
    rfl
  · have hfound := seekStandby_finds (s := raise s.periodReport s.periodEnded) (slot := slot) (e := e)
      (by rw [raise_eq]; exact hstate) (by rw [raise_eq]; exact hstandby) (by rw [raise_eq]; exact henable)
      (by rw [raise_eq]; exact hmode) (by rw [raise_eq]; exact hslot) (by rw [raise_eq]; exact he)
      (by rw [raise_eq]; exact hcall)
    have hprepared := prepareStandby_taken (s := grantHold .standby slot (raise s.periodReport s.periodEnded))
      (slot := slot) (e := e) (status := status) (after := after) (by
        rw [raise_eq]
        rcases hafter with h | ⟨h, hstatus⟩
        · exact .inl h
        · exact .inr ⟨h.congr rfl rfl rfl, hstatus⟩)
    rw [exec_periodEnd hdue, periodEnds_eq, hfound, hprepared]
    simp only [createStandby, raiseStandby, raise_eq]
    rfl

end Sys2Proof.Machine
end

section
/-! A try that begins: the entry it takes and the port it dials over or prepares (03 R59 to R61), and a press whose
plan begins with a DIAL step. -/

namespace Sys2Proof.Machine

variable {s t : State} {p : Port}

/-! ## The links of a chain -/

theorem runGo_link {n : Nat} {g g' : Go} {u : State} (h : goStep g s = (g', u)) (hg : g ≠ .rest)
    (hrest : runGo n g' u = some t) : runGo (n + 1) g s = some t := by
  rw [runGo_succ n g s hg, h]
  exact hrest

theorem runGo_last {g : Go} (h : goStep g s = (.rest, t)) (hg : g ≠ .rest) : runGo 2 g s = some t :=
  runGo_link h hg rfl

/-! ## The table's answers (01 R21, R22) -/

theorem inLastResortSet_congr {slot : TableSlot} (htable : t.table = s.table)
    (hpower : ∀ p, (t.port p).power.usable = (s.port p).power.usable)
    (hexcluded : (t.campaign.dialStep.any fun d => d.excluded.contains slot)
      = s.campaign.dialStep.any fun d => d.excluded.contains slot) :
    inLastResortSet t slot = inLastResortSet s slot := by
  unfold inLastResortSet
  rw [htable, hexcluded]
  cases s.table.entry slot with
  | none => rfl
  | some e =>
    dsimp only
    rw [hpower]

theorem firstEligible_congr {filter : ClassSet} (htable : t.table = s.table) (hcfg : t.cfg = s.cfg)
    (hpower : ∀ p, (t.port p).power.usable = (s.port p).power.usable)
    (hexcluded : ∀ slot, (t.campaign.dialStep.any fun d => d.excluded.contains slot)
      = s.campaign.dialStep.any fun d => d.excluded.contains slot) :
    firstEligible t filter = firstEligible s filter := by
  unfold firstEligible
  rw [htable]
  congr 1
  funext slot
  rw [eligible, inLastResortSet_congr htable hpower (hexcluded slot), htable, hcfg, eligible]

/-! ## A try and its entry (03 R59) -/

/-- The try of an origin to a destination over an entry, its number assigned. -/
def State.newTry (s : State) (origin : TryOrigin) (step : Option PlanSlot) (number : DestNumber) (slot : TableSlot)
    (e : Entry) : CurrentTry where
  id := s.serial
  origin := origin
  number := some (nextNumber s)
  slot := step
  destination := some number
  digits := (s.cfg.directory.get number).digits
  dataFlag := (s.cfg.directory.get number).dataFlag
  entry := some slot
  net := some e.net
  port := some e.port
  score := some e.score
  stage := .selecting
  release := none
  talk := none
  data := none
  cause := none

/-- The state with a try created and its entry taken. -/
def State.withTry (s : State) (origin : TryOrigin) (step : Option PlanSlot) (number : DestNumber) (slot : TableSlot)
    (e : Entry) : State :=
  { s with
    serial := s.serial + 1
    log := { s.log with counter := nextNumber s }
    table := s.table.onEntry slot fun x => { x with holds := { x.holds with attempt := true } }
    campaign := { s.campaign with attempt := some (s.newTry origin step number slot e) } }

theorem takeEntry_createTry (origin : TryOrigin) (step : Option PlanSlot) (number : DestNumber) (slot : TableSlot)
    (e : Entry) (s : State) :
    takeEntry slot e (createTry origin step number s) = s.withTry origin step number slot e := rfl

/-! ## The port of a try (03 R60, R61) -/

/-- How a try comes to its port: it dials at once over a free port attached to its network, its DIAL waits behind
the orders of a busy one, or the port is brought to the network. -/
def TryPlaced (s : State) (x : CurrentTry) (p : Port) (slot : TableSlot) (net : NetworkId) (state : CampaignState)
    (stage : TryStage) (after : PortContext) : Prop :=
  (PortFree s p ∧ (s.port p).attachment = .attached net ∧ (s.port p).call = .none ∧ state = .dial ∧ stage = .dialing
      ∧ after = { s.port p with
        call := .dialing
        silenceTimer := none
        inFlight := some ⟨⟨.dial x.digits, .campaign (.attempt x.id)⟩, 40⟩ })
    ∨ ((s.port p).power = .on ∧ ((s.port p).inFlight ≠ none ∨ (s.port p).queue ≠ []) ∧ s.supply.halt = false
      ∧ (s.port p).queue.length < 4 ∧ (s.port p).attachment = .attached net ∧ state = .dial ∧ stage = .dialing
      ∧ after = { s.port p with queue := (s.port p).queue ++ [⟨.dial x.digits, .campaign (.attempt x.id)⟩] })
    ∨ (BroughtTo s p slot net (.attempt x.id) after ∧ state = .prepare ∧ stage = .preparing)

/-- A DIAL behind the orders of a busy port. -/
theorem dialTry_busy {x : CurrentTry} (hx : s.campaign.attempt = some x) (hpower : (s.port p).power = .on)
    (hbusy : (s.port p).inFlight ≠ none ∨ (s.port p).queue ≠ []) (hhalt : s.supply.halt = false)
    (hroom : (s.port p).queue.length < 4) : dialTry x p s = (.rest, { s with
      campaign := { s.campaign with state := .dial, attempt := some { x with stage := .dialing } }
      ports := s.ports.put p { s.port p with
        queue := (s.port p).queue ++ [⟨.dial x.digits, .campaign (.attempt x.id)⟩] } }) := by
  unfold dialTry
  dsimp only
  rw [if_pos (answerFor_accepted (by simp [hpower, Power.usable]) hhalt (.inl hroom)),
    acceptOrder_queues (by exact .inr (.inr ⟨hpower, hbusy⟩)) (by exact hroom)]
  simp only [onTry, State.onCampaign, hx, joinQueue_tail (o := ⟨.dial x.digits, .campaign (.attempt x.id)⟩) rfl,
    Order.attachmentOn]
  rfl

/-- What a try with its entry taken does by what its port's attachment calls for (03 R60). -/
theorem bringTry_eq {x : CurrentTry} {slot : TableSlot} {net : NetworkId} (hx : s.campaign.attempt = some x)
    (hentry : x.entry = some slot) (hnet : x.net = some net) (hport : x.port = some p) :
    (approach (s.port p).attachment slot net = .ready → bringTry s = dialTry x p s)
      ∧ (approach (s.port p).attachment slot net = .wait →
        bringTry s = (.rest, adoptAttach p slot net (.attempt x.id) (preparing s)))
      ∧ ∀ kinds u, approach (s.port p).attachment slot net = .submit kinds →
        submitAll p (kinds.map fun k => ⟨k, .campaign (.attempt x.id)⟩) (preparing s) = (true, u) →
        bringTry s = (.rest, u) := by
  refine ⟨fun h => ?_, fun h => ?_, fun kinds u h hu => ?_⟩
  · simp only [bringTry, hx, hentry, hnet, hport, h]
  · simp only [bringTry, hx, hentry, hnet, hport, h]
  · simp only [bringTry, hx, hentry, hnet, hport, h, hu, if_true]

theorem preparing_eq {x : CurrentTry} (hx : s.campaign.attempt = some x) : preparing s = { s with
    campaign := { s.campaign with state := .prepare, attempt := some { x with stage := .preparing } } } := by
  simp only [preparing, onTry, State.onCampaign, hx]
  rfl

/-- A try with its entry taken comes to its port. -/
theorem bringTry_placed {x : CurrentTry} {slot : TableSlot} {net : NetworkId} {state : CampaignState}
    {stage : TryStage} {after : PortContext} (hx : s.campaign.attempt = some x) (hentry : x.entry = some slot)
    (hnet : x.net = some net) (hport : x.port = some p) (hstandby : isStandbyPort s p = false)
    (hroute : s.campaign.route ≠ some p) (h : TryPlaced s x p slot net state stage after) :
    bringTry s = (.rest, { s with
      campaign := { s.campaign with state := state, attempt := some { x with stage := stage } }
      ports := s.ports.put p after }) := by
  obtain ⟨hready, hwait, hsubmits⟩ := bringTry_eq hx hentry hnet hport
  rcases h with ⟨hfree, hattached, hcall, rfl, rfl, rfl⟩ | ⟨hpower, hbusy, hhalt, hroom, hattached, rfl, rfl, rfl⟩
    | ⟨hbrought, rfl, rfl⟩
  · rw [hready (by simp [approach, hattached]), dialTry_free hx hfree (.inr hstandby) hroute]
  · rw [hready (by simp [approach, hattached]), dialTry_busy hx hpower hbusy hhalt hroom]
  · have hmoved : BroughtTo (preparing s) p slot net (.attempt x.id) after := by
      rw [preparing_eq hx]
      exact hbrought.congr rfl rfl rfl
    have hsame : (preparing s).port p = s.port p := by
      rw [preparing_eq hx]
      rfl
    rcases hmoved.taken with ⟨happroach, hadopt⟩ | ⟨kinds, happroach, hsubmit⟩
    · rw [hwait (hsame ▸ happroach), hadopt, preparing_eq hx]
      rfl
    · rw [hsubmits kinds _ (hsame ▸ happroach) hsubmit, preparing_eq hx]
      rfl

/-- A try just begun over an entry comes to the entry's port. -/
theorem bringTry_withTry {origin : TryOrigin} {step : Option PlanSlot} {number : DestNumber} {slot : TableSlot}
    {e : Entry} {state : CampaignState} {stage : TryStage} {after : PortContext}
    (hstandby : isStandbyPort s e.port = false) (hroute : s.campaign.route ≠ some e.port)
    (h : TryPlaced s (s.newTry origin step number slot e) e.port slot e.net state stage after) :
    bringTry (s.withTry origin step number slot e) = (.rest, { s.withTry origin step number slot e with
      campaign := { s.campaign with
        state := state
        attempt := some { s.newTry origin step number slot e with stage := stage } }
      ports := s.ports.put e.port after }) := by
  have hmoved : TryPlaced (s.withTry origin step number slot e) (s.newTry origin step number slot e) e.port slot e.net
      state stage after := by
    rcases h with h | h | ⟨h, hstate⟩
    · exact .inl h
    · exact .inr (.inl h)
    · exact .inr (.inr ⟨h.congr rfl rfl rfl, hstate⟩)
  exact bringTry_placed (s := s.withTry origin step number slot e) (x := s.newTry origin step number slot e) rfl rfl
    rfl rfl hstandby hroute hmoved

/-- The walk that comes to a DIAL step begins a try of it (02 R32). -/
theorem goStep_walk_dial {here : PlanSlot} {destination : DestNumber} {filter : ClassSet} {tries : Nat} {more : Bool}
    (h : s.cfg.steps.get here = .dial destination filter tries more) :
    goStep (.walk here) s = (.beginTry, s.onCampaign fun c => { c with
      cursor := some here
      controlCount := 0
      afterLoss := false
      dialStep := some ⟨here, destination, filter, tries, [], false⟩ }) := by
  simp only [goStep, walkSlot, h]
  rfl

theorem goStep_beginTry {d : DialStep} (hd : s.campaign.dialStep = some d)
    (hdigits : (s.cfg.directory.get d.destination).digits ≠ []) :
    goStep .beginTry s = (.select, createTry .plan (some d.slot) d.destination s) := by
  have hhas : hasDigits s d.destination = true := by simpa [hasDigits] using hdigits
  simp only [goStep, beginStepTry, hd, hhas, if_true]

/-- The SELECTING try takes the first eligible entry. -/
theorem goStep_select {d : DialStep} {slot : TableSlot} {e : Entry} (hd : s.campaign.dialStep = some d)
    (hslot : firstEligible s d.filter = some slot) (he : s.table.entry slot = some e) :
    goStep .select s = bringTry (takeEntry slot e s) := by
  simp only [goStep, selectEntry, hd, hslot, he]

/-- A try of the current DIAL step begins, selects and comes to its port. -/
theorem runGo_beginTry {d : DialStep} {slot : TableSlot} {e : Entry} {state : CampaignState} {stage : TryStage}
    {after : PortContext} (hd : s.campaign.dialStep = some d)
    (hdigits : (s.cfg.directory.get d.destination).digits ≠ []) (hslot : firstEligible s d.filter = some slot)
    (he : s.table.entry slot = some e) (hstandby : isStandbyPort s e.port = false)
    (hroute : s.campaign.route ≠ some e.port)
    (h : TryPlaced s (s.newTry .plan (some d.slot) d.destination slot e) e.port slot e.net state stage after) :
    runGo 3 .beginTry s = some { s.withTry .plan (some d.slot) d.destination slot e with
      campaign := { s.campaign with
        state := state
        attempt := some { s.newTry .plan (some d.slot) d.destination slot e with stage := stage } }
      ports := s.ports.put e.port after } := by
  refine runGo_link (goStep_beginTry hd hdigits) (by simp) (runGo_last ?_ (by simp))
  have hsame : firstEligible (createTry .plan (some d.slot) d.destination s) d.filter = some slot := hslot
  rw [goStep_select (s := createTry .plan (some d.slot) d.destination s) (d := d) hd hsame he, takeEntry_createTry,
    bringTry_withTry hstandby hroute h]

/-- Settles O6. -/
theorem pressDialsBestNetwork : Obligations.PressDialsBestNetwork := by
  unfold Obligations.PressDialsBestNetwork
  intro s destination filter tries more slot e state stage after harmed hinIdle hmode hhalt hstep hdigits hslot he hplaced
  have hstart : canStart { s with armed := false } = true :=
    (canStart_iff _).mpr ⟨.inl (by simp [hinIdle, Campaign.inIdle]), hmode, hhalt⟩
  obtain ⟨fresh, hfresh⟩ : ∃ fresh : State, fresh = raise (.started .button) { s with
      armed := false
      log := AttemptLog.empty
      campaign := { Campaign.inIdle with
        origin := some .button
        phase := some .plan
        cursor := some s.cfg.tuning.entrySlot
        dialStep := some ⟨s.cfg.tuning.entrySlot, destination, filter, tries, [], false⟩ } } := ⟨_, rfl⟩
  have hwalk : goStep (.walk s.cfg.tuning.entrySlot) (freshCampaign .button (some .plan)
      (some s.cfg.tuning.entrySlot) (closeOldWindow { s with armed := false })) = (.beginTry, fresh) := by
    have hidle : ({ s with armed := false } : State).campaign.state = .idle := by simp [hinIdle, Campaign.inIdle]
    refine (congrArg (goStep (.walk s.cfg.tuning.entrySlot))
      (freshCampaign_idle { s with armed := false } .button hidle)).trans ?_
    rw [goStep_walk_dial (by rw [raise_eq]; exact hstep), hfresh, raise_eq, raise_eq]
    rfl
  have hfirst : firstEligible fresh filter = some slot := by
    rw [← hslot, hfresh, raise_eq]
    exact firstEligible_congr rfl rfl (fun _ => rfl) fun i => by simp [hinIdle, Campaign.inIdle]
  have htried := runGo_beginTry (s := fresh) (slot := slot) (e := e) (state := state) (stage := stage)
    (after := after) (d := ⟨s.cfg.tuning.entrySlot, destination, filter, tries, [], false⟩)
    (by rw [hfresh, raise_eq]) (by rw [hfresh, raise_eq]; exact hdigits) hfirst
    (by rw [hfresh, raise_eq]; exact he) (by rw [hfresh, raise_eq]; rfl)
    (by rw [hfresh, raise_eq]; simp [Campaign.inIdle]) (by
      rw [hfresh, raise_eq]
      rcases hplaced with h | ⟨hpower, hbusy, hroom, h⟩ | ⟨h, hstate⟩
      · exact .inl h
      · exact .inr (.inl ⟨hpower, hbusy, hhalt, hroom, h⟩)
      · exact .inr (.inr ⟨h.congr rfl rfl (by simp [hinIdle]), hstate⟩))
  have hrun := runChain_of_runGo 4 (by unfold chainBound; omega) (stateKey s.campaign) _ _ _
    (runGo_link hwalk (by simp) htried)
  rw [exec_callPress s harmed, takePress, if_pos hstart, startCampaign]
  dsimp only
  rw [hrun, reportChange_moved (stateKey_ne_of_state ?_) ?_, hfresh, outcomeOf_some]
  · simp only [raise_eq]
    rfl
  · rcases hplaced with ⟨-, -, -, rfl, -⟩ | ⟨-, -, -, -, rfl, -⟩ | ⟨-, rfl, -⟩ <;> simp [hinIdle, Campaign.inIdle]
  · rcases hplaced with ⟨-, -, -, rfl, -⟩ | ⟨-, -, -, -, rfl, -⟩ | ⟨-, rfl, -⟩ <;> simp

/-! ## END_CALL (03 R73) -/

theorem placeReply_link (type : Byte) (code : ReplyCode) (contents : Contents) (s : State) :
    ∃ l, placeReply type code contents (lineIdle s) = { s with link := l } := by
  rw [placeReply_eq]
  exact ⟨_, rfl⟩

theorem exec_endCall (h : LinkReady s) : exec .endCall s =
    .next (takeEndCall (placeReply 0x83 (endCallCode s) .none (lineIdle s))) :=
  exec_ready (r := .endCall) h rfl (by simp)

theorem endCallCode_active (h : s.campaign.state ≠ .idle) : endCallCode s = .ok := if_neg h

/-- Leaving TALK with its call entry (03 R66, R81). -/
theorem leaveTalk_eq {slot : TableSlot} (h : s.campaign.callEntry = some slot) : leaveTalk s = { s with
    table := s.table.onEntry slot fun e => { e with holds := { e.holds with call := false } }
    campaign := { s.campaign with callEntry := none, callPort := none, route := none } } := by
  unfold leaveTalk
  rw [h]
  rfl

/-- Settles O38. -/
theorem endCall : Obligations.EndCall := by
  unfold Obligations.EndCall
  refine ⟨fun s hready hidle => ?_, fun s hready hstate => ?_, fun s x inTalk hready hstate hx hrelease => ?_,
    fun s x p after hready hstate hx hport hroute hup => ?_,
    fun s x p slot after u hready hstate hx hport hentry hcallPort hup hu => ?_,
    fun s outcome summary hready hstandby hstate hsummary => ?_⟩
  · rw [exec_endCall hready, endCallCode, if_pos hidle]
    obtain ⟨l, hl⟩ := placeReply_link 0x83 .notActive .none s
    rw [hl]
    simp only [takeEndCall, hidle]
  · rw [exec_endCall hready, endCallCode_active (by rcases hstate with h | ⟨h, -⟩ <;> simp [h])]
    obtain ⟨l, hl⟩ := placeReply_link 0x83 .ok .none s
    rw [hl]
    rcases hstate with h | ⟨h, x, hx, hrelease⟩
    · simp only [takeEndCall, h]
      rw [State.onCampaign, h]
    · have hany : (s.campaign.attempt.any fun t => t.release == some .ringTimeout) = true := by simp [hx, hrelease]
      simp only [takeEndCall, h, hany, if_true]
      rw [State.onCampaign, h]
  · rw [exec_endCall hready, endCallCode_active (by simp [hstate])]
    obtain ⟨l, hl⟩ := placeReply_link 0x83 .ok .none s
    rw [hl]
    have hany : (s.campaign.attempt.any fun t => t.release == some .ringTimeout) = false := by simp [hx, hrelease]
    simp only [takeEndCall, hstate, hany, Bool.false_eq_true, if_false]
  · rw [exec_endCall hready, endCallCode_active (by rcases hstate with h | h <;> simp [h])]
    obtain ⟨l, hl⟩ := placeReply_link 0x83 .ok .none s
    rw [hl]
    obtain ⟨route, hnone, hreleased⟩ := releaseTry_eq (s := { s with link := l }) (reason := .endCall false) hx hport
      (hup.congr rfl rfl)
    obtain rfl : route = none := by rcases hnone with h | h <;> simp [h, hroute]
    have htaken : takeEndCall { s with link := l } =
        reportChange (stateKey s.campaign) (releaseTry (.endCall false) { s with link := l }) := by
      rcases hstate with h | h <;> simp only [takeEndCall, h]
    rw [htaken, hreleased, reportChange_moved (stateKey_ne_of_state (by rcases hstate with h | h <;> simp [h])) (by simp)]
    simp only [← hroute]
    rfl
  · rw [exec_endCall hready, endCallCode_active (by simp [hstate])]
    obtain ⟨l, hl⟩ := placeReply_link 0x83 .ok .none s
    rw [hl] at hu ⊢
    obtain ⟨route, -, hreleased⟩ := releaseTry_eq (s := { s with link := l }) (reason := .endCall true) hx hport
      (hup.congr rfl rfl)
    have htaken : takeEndCall { s with link := l } = reportChange (stateKey s.campaign)
        (clearStandby .callEnded (leaveTalk (releaseTry (.endCall true) { s with link := l }))) := by
      simp only [takeEndCall, hstate]
    have hmoved : ∀ c : Campaign, c.state = .release → stateKey c ≠ stateKey s.campaign := fun c hc =>
      stateKey_ne_of_state (by simp [hc, hstate])
    rw [htaken, hreleased, leaveTalk_eq (by exact hentry)]
    subst hu
    refine ⟨fun hstandby => ?_, fun b hb => ?_⟩
    · rw [clearStandby_none (by exact hstandby), reportChange_moved (hmoved _ rfl) (by simp)]
      simp only [← hstandby]
      rfl
    · rw [clearStandby_some (b := b) (by exact hb), reportChange_moved (hmoved _ (by simp)) (by simp)]
      simp only [raise_eq]
      rfl
  · have hactive : s.campaign.state ≠ .idle := by rcases hstate with ⟨h | h, -⟩ | ⟨h, -⟩ <;> simp [h]
    rw [exec_endCall hready, endCallCode_active hactive]
    obtain ⟨l, hl⟩ := placeReply_link 0x83 .ok .none s
    rw [hl]
    have htaken : takeEndCall { s with link := l } = endCampaign outcome { s with link := l } := by
      rcases hstate with ⟨h | h, rfl⟩ | ⟨h, rfl⟩ <;> simp only [takeEndCall, h]
    rw [htaken, endCampaign_eq (by exact hstandby), hsummary]
    rfl

end Sys2Proof.Machine
end

section
/-! A wait that ends (02 R36): the walk over one control step, the plan's end and faults, and the last resort. -/

namespace Sys2Proof.Machine

variable {s t : State} {p : Port}

/-! ## The walk over control steps (02 R30, R38 to R43) -/

/-- The context of the walk come to a control step. -/
def State.atControl (here : PlanSlot) (s : State) : State :=
  s.onCampaign fun c => { c with cursor := some here, controlCount := c.controlCount + 1 }

theorem goStep_walk_control {here : PlanSlot} (hstep : stepMore (s.cfg.steps.get here) = none)
    (hcount : s.campaign.controlCount + 1 < 32) :
    goStep (.walk here) s = controlStep here (s.cfg.steps.get here) (s.atControl here) := by
  simp only [goStep, walkSlot]
  cases h : s.cfg.steps.get here with
  | dial | wait | resurvey => simp [h, stepMore] at hstep
  | test | goto | invoke | ret => exact if_pos hcount

theorem goStep_walk_loop {here : PlanSlot} (hstep : stepMore (s.cfg.steps.get here) = none)
    (hcount : 32 ≤ s.campaign.controlCount + 1) :
    goStep (.walk here) s = (.planEnds, notePlanFault .loop here (s.atControl here)) := by
  simp only [goStep, walkSlot]
  cases h : s.cfg.steps.get here with
  | dial | wait | resurvey => simp [h, stepMore] at hstep
  | test | goto | invoke | ret => exact if_neg (Nat.not_lt.mpr hcount)

/-- A GOTO to its own slot comes to the 32nd control step, a fault LOOP (02 R30). -/
theorem runGo_goto_self {here : PlanSlot} (left k : Nat) (s : State) (hstep : s.cfg.steps.get here = .goto here)
    (hcount : s.campaign.controlCount + left = 31) : runGo (left + 1 + k) (.walk here) s =
      runGo k .planEnds (s.onCampaign fun c =>
        { c with cursor := some here, controlCount := 32, planFault := some ⟨.loop, here⟩ }) := by
  have hcontrol : stepMore (s.cfg.steps.get here) = none := by rw [hstep]; rfl
  induction left generalizing s with
  | zero =>
    rw [Nat.zero_add, Nat.add_comm 1 k, runGo_succ k _ _ (by simp), goStep_walk_loop hcontrol (by omega)]
    simp only [notePlanFault, State.atControl, State.onCampaign, Nat.add_zero] at hcount ⊢
    rw [hcount]
  | succ left ih =>
    rw [show left + 1 + 1 + k = (left + 1 + k) + 1 by omega, runGo_succ _ _ _ (by simp),
      goStep_walk_control hcontrol (by omega), hstep]
    simp only [controlStep]
    rw [ih (s.atControl here) (by exact hstep) (by simp only [State.atControl, State.onCampaign]; omega)
      (by exact hcontrol)]
    rfl

/-! ## The plan's end (02 R31, 04 R96) -/

theorem endCampaign_cleared (outcome : CampaignOutcome) (s : State) :
    endCampaign outcome s = endCampaign outcome (clearStandby .callEnded s) := by
  have hcleared : (clearStandby .callEnded s).campaign.standby = none := by
    unfold clearStandby
    split <;> simp_all
  simp only [endCampaign, closeCampaign, clearStandby_none hcleared]

/-- The end of a campaign, its standby cleared where it has one. -/
theorem endCampaign_parts (outcome : CampaignOutcome) (s : State) :
    (endCampaign outcome s).campaign = Campaign.inIdle
      ∧ (endCampaign outcome s).log = { s.log with summary := some (s.summary outcome) }
      ∧ (∀ i, (endCampaign outcome s).table.entry i = (s.table.entry i).map fun e => { e with holds := Holds.empty })
      ∧ (endCampaign outcome s).ports = s.ports ∧ (endCampaign outcome s).survey = s.survey
      ∧ (endCampaign outcome s).outside = s.outside
      ∧ (endCampaign outcome s).supply = { s.supply with idleNotices := s.supply.idleNotices + 1 } := by
  have hparts : ∀ u : State, u.campaign.standby = none →
      (endCampaign outcome u).campaign = Campaign.inIdle
        ∧ (endCampaign outcome u).log = { u.log with summary := some (u.summary outcome) }
        ∧ (∀ i, (endCampaign outcome u).table.entry i = (u.table.entry i).map fun e => { e with holds := Holds.empty })
        ∧ (endCampaign outcome u).ports = u.ports ∧ (endCampaign outcome u).survey = u.survey
        ∧ (endCampaign outcome u).outside = u.outside
        ∧ (endCampaign outcome u).supply = { u.supply with idleNotices := u.supply.idleNotices + 1 } := by
    intro u hu
    refine ⟨?_, ?_, fun i => ?_, ?_, ?_, by simp, ?_⟩
    · rw [endCampaign_eq hu, raise_eq, raise_eq]
    · rw [endCampaign_eq hu, raise_eq, raise_eq]
    · rw [endCampaign_eq hu, raise_eq, raise_eq]
      exact NetTable.entry_onAll _ _ _
    · rw [endCampaign_eq hu, raise_eq, raise_eq]
    · rw [endCampaign_eq hu, raise_eq, raise_eq]
    · rw [endCampaign_eq hu, raise_eq, raise_eq]
  cases hb : s.campaign.standby with
  | none => exact hparts s hb
  | some b =>
    have hcleared := clearStandby_some (reason := .callEnded) hb
    obtain ⟨hcampaign, hlog, htable, hports, hsurvey, houtside, hsupply⟩ := hparts (clearStandby .callEnded s)
      (by rw [hcleared, raise_eq])
    rw [← endCampaign_cleared] at hcampaign hlog hports hsurvey houtside hsupply
    simp only [← endCampaign_cleared] at htable
    refine ⟨hcampaign, hlog.trans ?_, fun i => (htable i).trans ?_, hports.trans ?_, hsurvey.trans ?_,
      houtside.trans (by simp), hsupply.trans ?_⟩
    · rw [hcleared, raise_eq]
      rfl
    · rw [hcleared, raise_eq, NetTable.entry_onEntry]
      split
      next h =>
        rw [h, Option.map_map]
        rfl
      next => rfl
    · rw [hcleared, raise_eq]
    · rw [hcleared, raise_eq]
    · rw [hcleared, raise_eq]

/-- The plan ends with nothing to dial at destination 0: the campaign fails (04 R96). -/
theorem runGo_planEnds_fails (hdigits : (s.cfg.directory.get 0).digits = []) :
    runGo 3 .planEnds s = some (endCampaign .failed (s.onCampaign fun c =>
      { c with stack := [], dialStep := none, phase := some .lastResort })) := by
  refine runGo_link (g' := .ends .failed) ?_ (by simp) (runGo_last rfl (by simp))
  have hnone : ∀ u : State, u.cfg = s.cfg → ¬hasDigits u 0 = true := fun u hu => by simp [hasDigits, hu, hdigits]
  simp only [goStep, beginLastResort]
  rw [if_neg (hnone (s.onCampaign _) rfl)]

/-- The pass takes the entry at its position (04 R97, R98). -/
theorem goStep_pass {r : LastResort} {slot : TableSlot} {e : Entry} (hr : s.campaign.lastResort = some r)
    (hslot : r.list[r.position]? = some slot) (he : s.table.entry slot = some e) (hin : inLastResortSet s slot = true)
    (hdigits : (s.cfg.directory.get 0).digits ≠ []) :
    goStep .pass s = bringTry ((s.onCampaign fun c =>
      { c with lastResort := some { r with position := r.position + 1 } }).withTry .lastResort none 0 slot e) := by
  have hin' : inLastResortSet (s.onCampaign fun c =>
      { c with lastResort := some { r with position := r.position + 1 } }) slot = true := hin
  have hhas : hasDigits (s.onCampaign fun c =>
      { c with lastResort := some { r with position := r.position + 1 } }) 0 = true := by simp [hasDigits, hdigits]
  simp only [goStep, passPosition, hr, hslot, State.onCampaign_table, he, hin', if_true, lastResortTry, hhas,
    takeEntry_createTry]

/-- The plan ends and the pass of the last resort dials the first of its set (04 R96 to R98). -/
theorem runGo_planEnds_dials {i : TableSlot} {e : Entry} {rest : List TableSlot} {state : CampaignState}
    {stage : TryStage} {after : PortContext} (hdigits : (s.cfg.directory.get 0).digits ≠ [])
    (hset : frozenSet (s.onCampaign fun c => { c with dialStep := none }) = i :: rest)
    (he : s.table.entry i = some e) (hstandby : isStandbyPort s e.port = false) (hroute : s.campaign.route ≠ some e.port)
    (h : TryPlaced s (s.newTry .lastResort none 0 i e) e.port i e.net state stage after) :
    runGo 3 .planEnds s = some { s.withTry .lastResort none 0 i e with
      campaign := { s.campaign with
        stack := []
        dialStep := none
        phase := some .lastResort
        lastResort := some ⟨false, i :: rest, 1⟩
        state := state
        attempt := some { s.newTry .lastResort none 0 i e with stage := stage } }
      ports := s.ports.put e.port after } := by
  have hhas : ∀ u : State, u.cfg = s.cfg → hasDigits u 0 = true := fun u hu => by simp [hasDigits, hu, hdigits]
  have hin : inLastResortSet (s.onCampaign fun c => { c with dialStep := none }) i = true := by
    have hmem : i ∈ frozenSet (s.onCampaign fun c => { c with dialStep := none }) := by simp [hset]
    exact (List.mem_filter.mp hmem).2
  have hpass : goStep .planEnds s = (.pass, s.onCampaign fun c => { c with
      stack := [], dialStep := none, phase := some .lastResort, lastResort := some ⟨false, i :: rest, 0⟩ }) := by
    simp only [goStep, beginLastResort]
    rw [if_pos (hhas (s.onCampaign _) rfl), ← hset]
    rfl
  refine runGo_link hpass (by simp) (runGo_last ?_ (by simp))
  rw [goStep_pass (s := s.onCampaign fun c => { c with
      stack := [], dialStep := none, phase := some .lastResort, lastResort := some ⟨false, i :: rest, 0⟩ }) rfl rfl he
    hin hdigits]
  exact bringTry_withTry (s := s.onCampaign fun c => { c with
      stack := [], dialStep := none, phase := some .lastResort, lastResort := some ⟨false, i :: rest, 1⟩ })
    (origin := .lastResort) (step := none) (number := 0) (slot := i) (e := e) (state := state) (stage := stage)
    (after := after) hstandby hroute (by
      rcases h with h | h | ⟨h, hstate⟩
      · exact .inl h
      · exact .inr (.inl h)
      · exact .inr (.inr ⟨h.congr rfl rfl rfl, hstate⟩))

/-! ## The wait that ends (02 R36) -/

/-- The state the walk goes on from: the wait timer is gone. -/
def State.waited (s : State) : State := s.onCampaign fun c => { c with waitTimer := none }

theorem exec_waitExpiry {n : Nat} (hdue : s.campaign.waitTimer = some 0) (hn : n ≤ 64)
    (h : runGo n (goAfterCursor s) s.waited = some t) :
    exec .waitExpiry s = .next (reportChange (stateKey s.campaign) t) := by
  simp only [exec, execWaitExpiry, takeIfDue_of_due (e := .waitExpiry) (s := s) (by simp [isDue, hdue]), takeDue,
    waitExpires]
  exact congrArg outcomeOf (runChain_of_runGo n (hn.trans (by unfold chainBound; omega)) _ _ _ _ h)

theorem goAfterCursor_wait {slot : PlanSlot} {seconds : Nat} {more : Bool} (hcursor : s.campaign.cursor = some slot)
    (hstep : s.cfg.steps.get slot = .wait seconds more) : goAfterCursor s = goSuccessor slot more := by
  simp [goAfterCursor, hcursor, hstep, stepMore]

/-- A control step that only hands the walk on to another slot, with a return stack. -/
theorem controlStep_hands_on {here next : PlanSlot} {stack : List PlanSlot}
    (h : (s.cfg.steps.get here = .goto next ∧ stack = s.campaign.stack)
      ∨ (s.cfg.steps.get here = .invoke next ∧ s.campaign.stack.length < 4 ∧ stack = s.campaign.stack ++ [here + 1])
      ∨ (s.cfg.steps.get here = .ret ∧ s.campaign.stack = stack ++ [next])
      ∨ ∃ (condition : Condition) (held : Bool), s.cfg.steps.get here = .test condition
        ∧ stack = s.campaign.stack
        ∧ (∀ filter, condition = .noCandidate filter → (held = true ↔ firstEligible s filter = none))
        ∧ (condition = .supplyLow → (held = true ↔ s.supply.mode ≠ .normal))
        ∧ (condition = .afterLoss → held = s.campaign.afterLoss)
        ∧ (condition = .pressed → (held = true ↔ 1 ≤ s.campaign.presses))
        ∧ ((held = false ∧ next = here + 1)
          ∨ (held = true ∧ stepMore (s.cfg.steps.get (here + 1)) ≠ some false ∧ next = here + 1 + 1))) :
    stepMore (s.cfg.steps.get here) = none
      ∧ controlStep here (s.cfg.steps.get here) s = (.walk next, s.onCampaign fun c => { c with stack := stack }) := by
  rcases h with ⟨hstep, rfl⟩ | ⟨hstep, hroom, rfl⟩ | ⟨hstep, hstack⟩
    | ⟨condition, held, hstep, rfl, hnoCandidate, hlow, hloss, hpressed, hnext⟩
  · rw [hstep]
    exact ⟨rfl, rfl⟩
  · rw [hstep]
    exact ⟨rfl, by simp only [controlStep, hroom, if_true]; rfl⟩
  · rw [hstep]
    refine ⟨rfl, ?_⟩
    simp only [controlStep, hstack, List.getLast?_concat, State.onCampaign,
      List.dropLast_concat]
  · have hholds : conditionHolds s condition = held := by
      cases condition with
      | noCandidate filter =>
        rw [Bool.eq_iff_iff, hnoCandidate filter rfl]
        simp [conditionHolds]
      | supplyLow =>
        rw [Bool.eq_iff_iff, hlow rfl]
        simp [conditionHolds]
      | afterLoss => exact (hloss rfl).symm
      | pressed =>
        rw [Bool.eq_iff_iff, hpressed rfl]
        simp [conditionHolds]
    rw [hstep]
    refine ⟨rfl, ?_⟩
    rcases hnext with ⟨rfl, rfl⟩ | ⟨rfl, hmore, rfl⟩
    · simp only [controlStep, hholds, Bool.false_eq_true, if_false]
      rfl
    · have hskip : goSkip s (here + 1) = .walk (here + 1 + 1) := by
        unfold goSkip
        split
        next more hm =>
          obtain rfl : more = true := by
            cases more
            · exact absurd hm hmore
            · rfl
          rfl
        next => rfl
      simp only [controlStep, hholds, if_true, hskip]
      rfl

/-- The walk that comes to a WAIT, at once or over one control step, rests there. -/
theorem runGo_walk_wait {next : PlanSlot} {time : Nat} {last : Bool} (hwait : s.cfg.steps.get next = .wait time last) :
    runGo 2 (.walk next) s = some (s.onCampaign fun c => { c with
      cursor := some next, controlCount := 0, waitTimer := some time, state := .pause }) :=
  runGo_last (goStep_walk_wait _ hwait) (by simp)

/-- How the walk from a slot comes to the plan's end, with the fault it notes. -/
theorem runGo_to_planEnds {here : PlanSlot} {fault : Option PlanFault} (hcount : s.campaign.controlCount = 0)
    (h : (s.cfg.steps.get here = .ret ∧ s.campaign.stack = [] ∧ fault = s.campaign.planFault)
      ∨ (s.cfg.steps.get here = .goto here ∧ fault = some ⟨.loop, here⟩)
      ∨ ∃ target, s.cfg.steps.get here = .invoke target ∧ 4 ≤ s.campaign.stack.length
        ∧ fault = some ⟨.stackFull, here⟩) :
    ∃ n cursor count, n ≤ 40 ∧ ∀ k, runGo (n + k) (.walk here) s = runGo k .planEnds (s.onCampaign fun c =>
      { c with cursor := cursor, controlCount := count, planFault := fault }) := by
  rcases h with ⟨hstep, hstack, rfl⟩ | ⟨hstep, rfl⟩ | ⟨target, hstep, hfull, rfl⟩
  · refine ⟨1, some here, 1, by omega, fun k => ?_⟩
    have hstack' : (s.atControl here).campaign.stack = [] := hstack
    rw [Nat.add_comm, runGo_succ k _ _ (by simp), goStep_walk_control (by rw [hstep]; rfl) (by omega), hstep]
    simp only [controlStep, hstack', List.getLast?_nil]
    simp only [State.atControl, State.onCampaign, hcount]
  · exact ⟨32, some here, 32, by omega, fun k => runGo_goto_self 31 k s hstep (by omega)⟩
  · refine ⟨1, some here, 1, by omega, fun k => ?_⟩
    have hfull' : ¬(s.atControl here).campaign.stack.length < 4 := Nat.not_lt.mpr hfull
    rw [Nat.add_comm, runGo_succ k _ _ (by simp), goStep_walk_control (by rw [hstep]; rfl) (by omega), hstep]
    simp only [controlStep, hfull', if_false]
    simp only [notePlanFault, State.atControl, State.onCampaign, hcount]

/-- Settles O9. -/
theorem waitEnds : Obligations.WaitEnds := by
  unfold Obligations.WaitEnds
  intro s slot seconds more hpause hdue hcursor hstep
  have hgo : goAfterCursor s = goSuccessor slot more := goAfterCursor_wait hcursor hstep
  refine ⟨fun next stack time last hmore hnext hwait => ?_, fun fault hfault => ?_⟩
  · have hrun : ∃ n ≤ 64, runGo n (goAfterCursor s) s.waited = some { s with campaign := { s.campaign with
        state := .pause, cursor := some next, controlCount := 0, stack := stack, waitTimer := some time } } := by
      rw [hgo, hmore]
      rcases hnext with ⟨rfl, rfl⟩ | ⟨hcount, hhands⟩
      · exact ⟨2, by omega, runGo_walk_wait hwait⟩
      · obtain ⟨hcontrol, hstepped⟩ := controlStep_hands_on (s := s.waited.atControl (slot + 1)) (here := slot + 1)
          (next := next) (stack := stack) (by exact hhands)
        refine ⟨3, by omega, runGo_link ((goStep_walk_control (s := s.waited) hcontrol ?_).trans hstepped)
          (by simp [goSuccessor])
          (runGo_walk_wait hwait)⟩
        simp [State.waited, hcount]
    obtain ⟨n, hn, hrun⟩ := hrun
    rw [exec_waitExpiry hdue hn hrun, reportChange_same (by simp [stateKey, hpause])]
    simp only [← hpause]
  · have hends : ∃ n cursor count, n ≤ 40 ∧ ∀ k, runGo (n + k) (goAfterCursor s) s.waited =
        runGo k .planEnds (s.waited.onCampaign fun c =>
          { c with cursor := cursor, controlCount := count, planFault := fault }) := by
      rw [hgo]
      rcases hfault with ⟨rfl, rfl⟩ | ⟨rfl, hcount, hend⟩
      · exact ⟨0, s.campaign.cursor, s.campaign.controlCount, by omega, fun k => by rw [Nat.zero_add]; rfl⟩
      · exact runGo_to_planEnds (s := s.waited) hcount (by exact hend)
    obtain ⟨n, cursor, count, hn, hends⟩ := hends
    refine ⟨fun hdigits => ?_, fun slots rest i e hdigits hslots hsplit he hroute hstandby hfree hattached hcall => ?_⟩
    · have hrun := (hends 3).trans (runGo_planEnds_fails (by exact hdigits))
      obtain ⟨hcampaign, hlog, htable, hports, hsurvey, houtside, hsupply⟩ := endCampaign_parts .failed
        ((s.waited.onCampaign fun c => { c with cursor := cursor, controlCount := count, planFault := fault }).onCampaign
          fun c => { c with stack := [], dialStep := none, phase := some .lastResort })
      rw [exec_waitExpiry hdue (by omega) hrun, reportChange_eq, if_pos (.inr (by rw [hcampaign]; rfl))]
      exact ⟨_, rfl, hcampaign, hlog, htable, hports, hsurvey, houtside, hsupply⟩
    · have hset : frozenSet ((s.waited.onCampaign fun c =>
          { c with cursor := cursor, controlCount := count, planFault := fault }).onCampaign fun c =>
            { c with dialStep := none }) = i :: rest := by
        rw [← hsplit, hslots, frozenSet]
        congr 1
        funext j
        simp only [inLastResortSet, State.onCampaign, State.waited]
        cases s.table.entry j with
        | none => rfl
        | some x =>
          simp
          rfl
      have hrun := (hends 3).trans (runGo_planEnds_dials (by exact hdigits) hset (by exact he)
        (by simp [isStandbyPort, State.waited, hstandby]) (by simp [State.waited, hroute])
        (.inl ⟨hfree, hattached, hcall, rfl, rfl, rfl⟩))
      rw [exec_waitExpiry hdue (by omega) hrun, reportChange_moved (stateKey_ne_of_state (by simp [hpause])) (by simp)]
      have hnumber : min 65535 (s.log.counter + 1) = nextNumber s := countUp_eq_min.symm
      rw [hsplit, hnumber]
      refine ⟨_, rfl, ?_, ?_, ?_, ?_, ?_, ?_, (raise_frame _ _).1.trans rfl⟩
      all_goals
        rw [raise_eq]
        rfl

end Sys2Proof.Machine
end

section
/-! How a try ends (03 R64 to R66): the callback window, the next network of its DIAL step or the step's failure, and a
recovery over the standby (04 R88 to R91). -/

namespace Sys2Proof.Machine

variable {s t : State} {p : Port}

/-! ## A CALL_ENDED that ends the current try (06 R120, R126) -/

/-- The state with the call of a port gone and nothing in flight there. -/
def callGone (p : Port) (s : State) : State :=
  { s with
    campaign := { s.campaign with route := routeAfter p .none s.campaign.route }
    ports := s.ports.put p { s.port p with call := .none, silenceTimer := none, inFlight := none, rx := .hunting } }

theorem clearCallOrders_empty (h : (s.port p).queue = []) : clearCallOrders p s = s := by
  refine State.onPort_id ?_
  rw [h, List.filter_nil, ← h]

theorem moduleIdle_of_nothing_in_flight (h : (s.port p).inFlight = none) : moduleIdle p s = noticeTaken p s :=
  State.onPort_congr (by rw [← h])

theorem setCall_noticeTaken : setCall p .none (noticeTaken p s) = callGone p s := by
  rw [setCall_eq (.inr (.inl rfl)), noticeTaken, State.onPort_onPort]
  rfl

/-- What the end of a call hands its try on, and whether the next order may then go out. -/
theorem moduleNotice_callEnded {cause : EndCause} {moduleCause : Byte} {x : CurrentTry}
    (hpower : (s.port p).power = .on) (hq : (s.port p).queue = []) (hcall : (s.port p).call ≠ .none)
    (hoffered : (s.port p).call ≠ .offered) (hx : s.campaign.attempt = some x) (hport : x.port = some p)
    (hstage : x.stage = .dialing ∨ x.stage = .ringing ∨ x.stage = .connected)
    (hflight : (s.port p).inFlight = none
      ∨ (∃ digits n, (s.port p).inFlight = some ⟨⟨.dial digits, .campaign (.attempt x.id)⟩, n⟩)
      ∨ ∃ m who n, (s.port p).inFlight = some ⟨⟨.sendData m, who⟩, n⟩) :
    ∃ next : State → State, (∀ u, (u.port p).queue = [] → next u = u)
      ∧ moduleNotice p (some (.callEnded cause moduleCause)) s =
        (tryCallEnded cause moduleCause (callGone p s)).map next := by
  have hlistens : (s.port p).power.listens = true := by simp [hpower, Power.listens]
  have hempty : clearCallOrders p (callGone p s) = callGone p s :=
    clearCallOrders_empty (by simpa [callGone, State.port] using hq)
  have hon : tryOn (callGone p s) p [.dialing, .ringing, .connected, .answering, .releasing] = true := by
    rcases hstage with h | h | h <;> simp [tryOn, callGone, hx, hport, h]
  have hends : endsTry (callGone p s) p (s.port p).call = true := by
    rw [endsTry, if_neg hoffered, hon]
  rcases hflight with hnone | ⟨digits, n, hdial⟩ | ⟨m, who, n, hdata⟩
  · refine ⟨id, fun _ _ => rfl, ?_⟩
    rw [moduleNotice_unasked hlistens (by simp [hnone]), unaskedNotice, moduleIdle_of_nothing_in_flight hnone,
      unaskedCallEnded]
    dsimp only
    rw [setCall_noticeTaken, hempty, noticeTaken_port_self, if_neg hcall, if_pos hends, Option.map_id]
    rfl
  · refine ⟨sendFollowing p, fun u hu => sendFollowing_of_rest (.inl hu), ?_⟩
    rw [moduleNotice_completes (n := .callEnded cause moduleCause) hlistens hdial rfl, completion, callEndCompleted]
    dsimp only
    have hserves : completionEndsTry (callGone p s) p ⟨.dial digits, .campaign (.attempt x.id)⟩ (s.port p).call = true := by
      simp [completionEndsTry, servesTry, callGone, hx]
    rw [setCall_noticeTaken, noticeTaken_port_self, if_pos hserves]
  · refine ⟨sendFollowing p, fun u hu => sendFollowing_of_rest (.inl hu), ?_⟩
    rw [moduleNotice_completes (n := .callEnded cause moduleCause) hlistens hdata rfl, completion, callEndCompleted]
    dsimp only
    have hserves : completionEndsTry (callGone p s) p ⟨.sendData m, who⟩ (s.port p).call = true := by
      simp [completionEndsTry, hends, hcall]
    rw [setCall_noticeTaken, noticeTaken_port_self, hempty, if_pos hserves]

/-- The chain of a try that a CALL_ENDED ends. -/
theorem exec_callEnded_try {n : Nat} {ended moduleCause : Byte} {outcome : TryOutcome} {x : CurrentTry}
    (hpower : (s.port p).power = .on) (hq : (s.port p).queue = []) (hcall : (s.port p).call ≠ .none)
    (hoffered : (s.port p).call ≠ .offered) (hx : s.campaign.attempt = some x) (hport : x.port = some p)
    (hstage : x.stage = .dialing ∨ x.stage = .ringing ∨ x.stage = .connected)
    (hflight : (s.port p).inFlight = none
      ∨ (∃ digits n, (s.port p).inFlight = some ⟨⟨.dial digits, .campaign (.attempt x.id)⟩, n⟩)
      ∨ ∃ m who n, (s.port p).inFlight = some ⟨⟨.sendData m, who⟩, n⟩)
    (houtcome : endedOutcome x (endCauseOf ended) = some outcome)
    (hrun : runGo n (.tryEnds outcome (some moduleCause)) (callGone p s) = some t) (hn : n ≤ 64)
    (htq : (t.port p).queue = []) :
    exec (.callEnded p ended moduleCause) s = .next (reportChange (stateKey (callGone p s).campaign) t) := by
  obtain ⟨next, hnext, hnotice⟩ := moduleNotice_callEnded (cause := endCauseOf ended) (moduleCause := moduleCause)
    hpower hq hcall hoffered hx hport hstage hflight
  have hexec : exec (.callEnded p ended moduleCause) s =
      outcomeOf (moduleNotice p (some (.callEnded (endCauseOf ended) moduleCause)) s) := rfl
  have hx' : (callGone p s).campaign.attempt = some x := hx
  have hended : tryCallEnded (endCauseOf ended) moduleCause (callGone p s) =
      runChain (stateKey (callGone p s).campaign) (.tryEnds outcome (some moduleCause)) (callGone p s) := by
    simp only [tryCallEnded, hx', houtcome]
  rw [hexec, hnotice, hended, runChain_of_runGo n (hn.trans (by unfold chainBound; omega)) _ _ _ _ hrun,
    Option.map_some, hnext _ (by simpa [State.port] using htq), outcomeOf_some]

/-! ## The end of a try (03 R66) -/

/-- The entry of a try that has ended: a counted failure, and the TRY hold withdrawn (01 R13, 03 R66). -/
def Entry.tried (prefs : List PreferenceRecord) (outcome : TryOutcome) (cause : Option Byte) (y : Entry) : Entry :=
  { (if outcome.countsFailure then
      rescore prefs { y with failures := countUp 7 y.failures, lastCause := cause } else y) with
    holds := { y.holds with attempt := false } }

theorem Entry.tried_network (prefs : List PreferenceRecord) (outcome : TryOutcome) (cause : Option Byte) (y : Entry) :
    (y.tried prefs outcome cause).port = y.port ∧ (y.tried prefs outcome cause).net = y.net := by
  unfold Entry.tried
  split <;> exact ⟨rfl, rfl⟩

/-- The record of a try that ends. -/
def CurrentTry.ended (x : CurrentTry) (outcome : TryOutcome) (cause : Option Byte) : AttemptRecord :=
  { x with
    cause := cause
    data := if x.data = some .pending then some .failed else x.data : CurrentTry }.record outcome

/-- The state once TALK is left, where the campaign was in it. -/
def State.leftTalk (s : State) : State := if s.campaign.state = .talk then leaveTalk s else s

/-- A try over an entry ends with its record written (03 R66). -/
theorem endTry_eq {outcome : TryOutcome} {cause : Option Byte} {x : CurrentTry} {slot : TableSlot}
    (hx : s.campaign.attempt = some x) (hentry : x.entry = some slot) (horigin : x.origin.dialed = true) :
    endTry outcome cause s =
      raise (.attempt (x.ended outcome cause) (s.leftTalk.log.place (x.ended outcome cause)).records.length
          (s.leftTalk.log.place (x.ended outcome cause)).truncated)
        { s.leftTalk with
          log := s.leftTalk.log.place (x.ended outcome cause)
          table := s.leftTalk.table.onEntry slot (Entry.tried s.leftTalk.cfg.preferences outcome cause)
          campaign := { s.leftTalk.campaign with ringTimer := none, attempt := none } } := by
  have hdata : (x.data.map fun d => if d = DataOutcome.pending then DataOutcome.failed else d) =
      if x.data = some .pending then some .failed else x.data := by
    rcases x.data with - | d
    · rfl
    · cases d <;> rfl
  have htold : ∀ u : State, withdrawHold .attempt slot (tellOutcome slot outcome cause u) =
      u.onTable fun t => t.onEntry slot (Entry.tried u.cfg.preferences outcome cause) := fun u => by
    unfold tellOutcome withdrawHold Entry.tried
    split
    · simp only [State.onTable, NetTable.onEntry_onEntry]
      rfl
    · rfl
  unfold endTry
  simp only [hx]
  rw [hdata]
  simp only [hentry, horigin, if_true, htold, writeRecord, raise_onCampaign]
  rfl

theorem goStep_tryEnds {outcome : TryOutcome} {cause : Option Byte} {x : CurrentTry}
    (hx : s.campaign.attempt = some x) :
    goStep (.tryEnds outcome cause) s = afterTry x outcome (endTry outcome cause s) := by
  simp only [goStep, finishTry, hx]

theorem place_eq {l log : AttemptLog} {r : AttemptRecord}
    (hroom : l.records.length < 16 → log = { l with records := l.records ++ [r] })
    (hfull : 16 ≤ l.records.length → log = { l with records := l.records.drop 1 ++ [r], truncated := true }) :
    log = l.place r := by
  unfold AttemptLog.place
  split
  next h => exact hroom h
  next h => exact hfull (Nat.not_lt.mp h)

theorem endCauseOf_eq_farClear {b : Byte} : endCauseOf b = .farClear ↔ b = 1 := by
  constructor
  · intro h
    unfold endCauseOf at h
    split at h
    next hb => exact BitVec.eq_of_toNat_eq hb
    all_goals cases h
  · rintro rfl
    rfl

/-! ## The callback window (03 R79) -/

theorem find_onEntry {tab : NetTable} {i : TableSlot} {net : NetworkId} {f : Entry → Entry}
    (hf : ∀ e, (f e).port = e.port ∧ (f e).net = e.net) : (tab.onEntry i f).find p net = tab.find p net := by
  unfold NetTable.find
  congr 1
  funext j
  rw [NetTable.entry_onEntry]
  split
  next h =>
    rw [h]
    cases tab.entry i with
    | none => rfl
    | some e => simp [Entry.isOf, hf e]
  next => rfl

theorem goStep_window {net : NetworkId} {slot : TableSlot} (hwindow : s.cfg.tuning.callbackWindow ≠ 0)
    (hmode : s.supply.mode ≠ .cutoff) (hattached : (s.port p).attachment = .attached net)
    (hfind : s.table.find p net = some slot) : goStep (.window (some p)) s = (.rest, { s with
      table := s.table.onEntry slot fun e => { e with holds := { e.holds with callback := true } }
      campaign := { s.campaign with
        state := .callback
        stack := []
        dialStep := none
        cursor := none
        lastResort := none
        windowTimer := some s.cfg.tuning.callbackWindow
        callbackPort := some p } }) := by
  have hno : ¬((abandonWalk s).cfg.tuning.callbackWindow = 0 ∨ (abandonWalk s).supply.mode = .cutoff) := by
    rintro (h | h)
    · exact hwindow h
    · exact hmode h
  have hattached' : (((abandonWalk s).onCampaign fun c => { c with
      windowTimer := some (abandonWalk s).cfg.tuning.callbackWindow, state := .callback }).port p).attachment =
      .attached net := hattached
  have hfind' : (((abandonWalk s).onCampaign fun c => { c with
      windowTimer := some (abandonWalk s).cfg.tuning.callbackWindow, state := .callback }).onCampaign fun c =>
        { c with callbackPort := some p }).table.find p net = some slot := hfind
  simp only [goStep, openWindow, hno, if_false, keepCallbackPort, hattached', hfind']
  rfl

/-- A cleared call's try ends and the callback window opens (03 R66, R79). -/
theorem runGo_cleared {cause : Option Byte} {x : CurrentTry} {net : NetworkId} {slot : TableSlot}
    (hstate : s.campaign.state = .talk) (hx : s.campaign.attempt = some x) (hport : x.port = some p)
    (horigin : x.origin.dialed = true) (hentry : x.entry = some slot) (hcallEntry : s.campaign.callEntry = some slot)
    (hstandby : s.campaign.standby = none) (hcancel : s.campaign.cancelPending = false)
    (hwindow : s.cfg.tuning.callbackWindow ≠ 0) (hmode : s.supply.mode ≠ .cutoff)
    (hattached : (s.port p).attachment = .attached net) (hfind : s.table.find p net = some slot) :
    runGo 3 (.tryEnds .cleared cause) s = some
      (raise (.attempt (x.ended .cleared cause) (s.log.place (x.ended .cleared cause)).records.length
          (s.log.place (x.ended .cleared cause)).truncated)
        { s with
          log := s.log.place (x.ended .cleared cause)
          table := s.table.onEntry slot fun e => { e with
            holds := { e.holds with attempt := false, call := false, callback := true } }
          campaign := { s.campaign with
            state := .callback
            stack := []
            dialStep := none
            cursor := none
            lastResort := none
            attempt := none
            callEntry := none
            callPort := none
            route := none
            ringTimer := none
            windowTimer := some s.cfg.tuning.callbackWindow
            callbackPort := some p } }) := by
  have hleft : s.leftTalk = leaveTalk s := if_pos hstate
  have hend := endTry_eq (s := s) (outcome := .cleared) (cause := cause) hx hentry horigin
  rw [hleft, leaveTalk_eq hcallEntry] at hend
  have hended := goStep_tryEnds (s := s) (outcome := .cleared) (cause := cause) hx
  revert hended hend
  generalize endTry .cleared cause s = u
  intro hend hended
  have hafter : afterTry x .cleared u = (.window (some p), u) := by
    have hcancel' : u.campaign.cancelPending = false := by rw [hend, raise_eq]; exact hcancel
    have hstandby' : u.campaign.standby = none := by rw [hend, raise_eq]; exact hstandby
    simp only [afterTry, hcancel', Bool.false_eq_true, if_false, clearStandby_none hstandby', hport]
  have hfound : u.table.find p net = some slot := by
    rw [hend, (raise_frame _ _).2.1]
    dsimp only
    rw [find_onEntry fun y => y.tried_network _ _ _, find_onEntry (by intro y; exact ⟨rfl, rfl⟩)]
    exact hfind
  have hopens := goStep_window (s := u) (p := p) (net := net) (slot := slot) (by rw [hend, raise_eq]; exact hwindow)
    (by rw [hend, raise_eq]; exact hmode) (by rw [hend, raise_eq]; exact hattached) hfound
  rw [runGo_link (hended.trans hafter) (by simp) (runGo_last hopens (by simp)), hend]
  simp only [raise_eq, NetTable.onEntry_onEntry]
  rfl

/-! ## A failed try of a DIAL step (02 R33, R35) -/

/-- The outcomes after which a try of the plan goes on with its DIAL step. -/
def TryOutcome.failsStep : TryOutcome → Prop
  | .attachFailed | .rejected | .busy | .noAnswer => True
  | .portFailed | .aborted | .endedByBox | .cleared | .dropped | .emptyDestination | .noCandidate => False

/-- The state a failed try of a DIAL step leaves. -/
def State.tryFailed (s : State) (x : CurrentTry) (slot : TableSlot) (d : DialStep) (outcome : TryOutcome)
    (cause : Option Byte) : State :=
  raise (.attempt (x.ended outcome cause) (s.log.place (x.ended outcome cause)).records.length
      (s.log.place (x.ended outcome cause)).truncated)
    { s with
      log := s.log.place (x.ended outcome cause)
      table := s.table.onEntry slot (Entry.tried s.cfg.preferences outcome cause)
      campaign := { s.campaign with
        ringTimer := none
        attempt := none
        dialStep := some { d with excluded := d.excluded ++ [slot], triesLeft := d.triesLeft - 1 } } }

theorem goStep_tryFails {outcome : TryOutcome} {cause : Option Byte} {x : CurrentTry} {d : DialStep} {slot : TableSlot}
    (hx : s.campaign.attempt = some x) (horigin : x.origin = .plan) (hentry : x.entry = some slot)
    (hd : s.campaign.dialStep = some d) (hstate : s.campaign.state ≠ .talk) (hcancel : s.campaign.cancelPending = false)
    (hout : outcome.failsStep) : goStep (.tryEnds outcome cause) s =
      (if d.triesLeft - 1 = 0 then .stepFails else .beginTry, s.tryFailed x slot d outcome cause) := by
  have hleft : s.leftTalk = s := if_neg hstate
  have hend := endTry_eq (s := s) (outcome := outcome) (cause := cause) hx hentry (by rw [horigin]; rfl)
  rw [hleft] at hend
  rw [goStep_tryEnds hx]
  revert hend
  generalize endTry outcome cause s = u
  intro hend
  have hcancel' : u.campaign.cancelPending = false := by rw [hend, raise_eq]; exact hcancel
  have hd' : u.campaign.dialStep = some d := by rw [hend, raise_eq]; exact hd
  have hafter : afterTry x outcome u = failStepTry (some slot) u := by
    simp only [afterTry, hcancel', Bool.false_eq_true, if_false]
    cases outcome <;> first | exact absurd hout id | simp only [horigin, hentry]
  rw [hafter]
  simp only [failStepTry, hd', Option.toList_some]
  rw [hend, raise_onCampaign]
  rfl

theorem place_counter (l : AttemptLog) (r : AttemptRecord) : (l.place r).counter = l.counter := by
  unfold AttemptLog.place
  split <;> rfl

theorem goStep_stepFails {d : DialStep} (hd : s.campaign.dialStep = some d)
    (hmore : stepMore (s.cfg.steps.get d.slot) = some true) :
    goStep .stepFails s = (.walk (d.slot + 1), s.onCampaign fun c => { c with dialStep := none }) := by
  simp only [goStep, failStep, hd, hmore]
  rfl

/-- The outcome of a call that ends before it connects. -/
theorem beforeConnect_endCauseOf {b : Byte} {outcome : TryOutcome} {counted : Bool}
    (h : (b = 4 ∧ outcome = .busy ∧ counted = false) ∨ ((b = 1 ∨ b = 5) ∧ outcome = .noAnswer ∧ counted = false)
      ∨ (b ≠ 1 ∧ b ≠ 4 ∧ b ≠ 5 ∧ outcome = .rejected ∧ counted = true)) :
    beforeConnect (endCauseOf b) = outcome ∧ outcome.failsStep ∧ outcome.countsFailure = counted := by
  rcases h with ⟨rfl, rfl, rfl⟩ | ⟨rfl | rfl, rfl, rfl⟩ | ⟨h1, h4, h5, rfl, rfl⟩
  · exact ⟨rfl, trivial, rfl⟩
  · exact ⟨rfl, trivial, rfl⟩
  · exact ⟨rfl, trivial, rfl⟩
  · refine ⟨?_, trivial, rfl⟩
    unfold endCauseOf
    split
    next h => exact absurd (BitVec.eq_of_toNat_eq h) h1
    next => rfl
    next => rfl
    next h => exact absurd (BitVec.eq_of_toNat_eq h) h4
    next h => exact absurd (BitVec.eq_of_toNat_eq h) h5
    next => rfl
    next => rfl

theorem Entry.tried_eq (prefs : List PreferenceRecord) (outcome : TryOutcome) (cause : Byte) (y : Entry) :
    y.tried prefs outcome (some cause) =
      if outcome.countsFailure = true then
        { rescore prefs { y with failures := min 7 (y.failures + 1), lastCause := some cause } with
          holds := { y.holds with attempt := false } }
      else { y with holds := { y.holds with attempt := false } } := by
  have hcount : countUp 7 y.failures = min 7 (y.failures + 1) := countUp_eq_min
  rw [Entry.tried, hcount]
  split <;> rfl

/-- How a try of the plan that fails is told to the campaign: by the end of its call, or by the failure of its
registration. -/
theorem exec_tryFails {c : Instr} {x : CurrentTry} {slot : TableSlot} {outcome : TryOutcome} {cause : Byte}
    {counted : Bool} {after : PortContext} (hx : s.campaign.attempt = some x) (hport : x.port = some p)
    (hcancel : s.campaign.cancelPending = false) (hroute : s.campaign.route = none)
    (hcallback : s.campaign.callbackPort ≠ some p) (hpower : (s.port p).power = .on) (hq : (s.port p).queue = [])
    (h : (∃ ended, c = .callEnded p ended cause
        ∧ ((s.campaign.state = .dial ∧ x.stage = .dialing ∧ (s.port p).call = .dialing
            ∧ ∃ digits n, (s.port p).inFlight = some ⟨⟨.dial digits, .campaign (.attempt x.id)⟩, n⟩)
          ∨ (s.campaign.state = .ring ∧ x.stage = .ringing ∧ (s.port p).call = .alerting
            ∧ (s.port p).inFlight = none))
        ∧ ((ended = 4 ∧ outcome = .busy ∧ counted = false)
          ∨ ((ended = 1 ∨ ended = 5) ∧ outcome = .noAnswer ∧ counted = false)
          ∨ (ended ≠ 1 ∧ ended ≠ 4 ∧ ended ≠ 5 ∧ outcome = .rejected ∧ counted = true))
        ∧ after = { s.port p with call := .none, silenceTimer := none, inFlight := none, rx := .hunting })
      ∨ ∃ result net n, c = .attachResult p result cause ∧ result ≠ 1 ∧ s.campaign.state = .prepare
        ∧ x.stage = .preparing ∧ (s.port p).inFlight = some ⟨⟨.attach slot net, .campaign (.attempt x.id)⟩, n⟩
        ∧ outcome = .attachFailed ∧ counted = true
        ∧ after = { s.port p with attachment := .none, inFlight := none, rx := .hunting }) :
    s.campaign.state ≠ .talk ∧ outcome.failsStep ∧ outcome.countsFailure = counted ∧ after.power = .on
      ∧ after.queue = []
      ∧ ∀ n t, n ≤ 64 → runGo n (.tryEnds outcome (some cause)) { s with ports := s.ports.put p after } = some t →
        (t.port p).queue = [] → exec c s = .next (reportChange (stateKey s.campaign) t) := by
  rcases h with ⟨ended, rfl, hcall, hended, rfl⟩
    | ⟨result, net, k, rfl, hresult, hstate, hstage, hflight, rfl, rfl, rfl⟩
  · obtain ⟨hbefore, hfails, hcounted⟩ := beforeConnect_endCauseOf hended
    have hkept : routeAfter p .none s.campaign.route = s.campaign.route := by simp [hroute]
    have hgone : callGone p s = { s with ports := s.ports.put p { s.port p with
        call := .none, silenceTimer := none, inFlight := none, rx := .hunting } } := by
      rw [callGone, hkept]
    refine ⟨by rcases hcall with ⟨h, -⟩ | ⟨h, -⟩ <;> simp [h], hfails, hcounted, hpower, hq,
      fun n t hn hrun htq => ?_⟩
    rw [← hgone] at hrun
    rw [exec_callEnded_try hpower hq (outcome := outcome) ?_ ?_ hx hport ?_ ?_ ?_ hrun hn htq, hgone]
    · rcases hcall with ⟨-, -, h, -⟩ | ⟨-, -, h, -⟩ <;> simp [h]
    · rcases hcall with ⟨-, -, h, -⟩ | ⟨-, -, h, -⟩ <;> simp [h]
    · rcases hcall with ⟨-, h, -⟩ | ⟨-, h, -⟩ <;> simp [h]
    · rcases hcall with ⟨-, -, -, h⟩ | ⟨-, -, -, h⟩
      · exact .inr (.inl h)
      · exact .inl h
    · rcases hcall with ⟨-, h, -⟩ | ⟨-, h, -⟩ <;> simp [endedOutcome, h, hbefore]
  · refine ⟨by simp [hstate], trivial, rfl, hpower, hq, fun n t hn hrun htq => ?_⟩
    have hfailed : (result == 1) = false := by simpa using hresult
    have hexec : exec (.attachResult p result cause) s =
        outcomeOf (moduleNotice p (some (.attachResult false cause)) s) := by
      have h : exec (.attachResult p result cause) s = outcomeOf (moduleNotice p (readAttach result cause) s) := rfl
      rw [h, readAttach, hfailed]
    have hserves : (s.campaign.attempt.any fun t => t.id == x.id && t.stage == .preparing) = true := by
      simp [hx, hstage]
    have htaken : takeAttached (.attempt x.id) false cause (s.onPort p fun c =>
          { c with rx := .hunting, inFlight := none, attachment := if false then .attached net else .none }) =
        runChain (stateKey s.campaign) (.tryEnds .attachFailed (some cause)) (s.onPort p fun c =>
          { c with rx := .hunting, inFlight := none, attachment := .none }) := by
      simp only [takeAttached, State.onPort_campaign, hserves, if_true]
      simp only [tryAttached, State.onPort_campaign, hx, hport, hcancel, Bool.false_eq_true, if_false]
    have hrun' : runGo n (.tryEnds .attachFailed (some cause)) (s.onPort p fun c =>
        { c with rx := .hunting, inFlight := none, attachment := .none }) = some t := hrun
    rw [hexec, moduleNotice_attachResult hpower hq hflight (.inr hcallback), htaken,
      runChain_of_runGo n (hn.trans (by unfold chainBound; omega)) _ _ _ _ hrun', Option.map_some,
      sendFollowing_of_rest (.inl (by simpa [State.port] using htq)), outcomeOf_some]

/-- Settles O44. -/
theorem farEndClears : Obligations.FarEndClears := by
  unfold Obligations.FarEndClears
  refine ⟨fun s p x e slot number moduleCause record log hstate hx hstage hport horigin hentry hnumber hcallEntry
    hstandby hcancel hwindow hmode hpower hcall hflight hq hattached he hfind hrecord hroom hfull => ?_, ?_⟩
  · have hlog : log = s.log.place record := place_eq hroom hfull
    have hended : x.ended .cleared (some moduleCause) = record := by
      rw [hrecord]
      simp [CurrentTry.ended, CurrentTry.record, hnumber, hport, TryOutcome.hasTalk]
    have hdialed : x.origin.dialed = true := by rcases horigin with h | h | h <;> simp [h, TryOrigin.dialed]
    have hrun := runGo_cleared (s := callGone p s) (cause := some moduleCause) (net := e.net) hstate hx hport hdialed
      hentry hcallEntry hstandby hcancel hwindow hmode (by simpa [callGone, State.port] using hattached) hfind
    rw [exec_callEnded_try hpower hq (by simp [hcall]) (by simp [hcall]) hx hport (.inr (.inr hstage)) ?_
      (by simp [endedOutcome, hstage, endCauseOf_eq_farClear]) hrun (by omega) ?_]
    · rw [reportChange_moved (stateKey_ne_of_state (by simp [callGone, hstate])) (by simp), hended, hlog]
      simp only [raise_eq]
      rfl
    · rcases hflight with h | h
      · exact .inl h
      · exact .inr (.inr h)
    · rw [raise_eq]
      simpa [callGone, State.port] using hq
  · intro s c p x d slot number outcome cause counted after record log table hx hport horigin hentry hnumber hd hcancel
      hstandby hroute hcallback hpower hq hc htable hrecord hroom hfull
    obtain ⟨hstate, hfails, hcounted, hafterPower, hafterQ, hexec⟩ := exec_tryFails hx hport hcancel hroute hcallback
      hpower hq hc
    have hlog : log = s.log.place record := place_eq hroom hfull
    have hended : x.ended outcome (some cause) = record := by
      rw [hrecord]
      cases outcome <;> first
        | exact absurd hfails id
        | simp [CurrentTry.ended, CurrentTry.record, hnumber, hport, horigin, TryOutcome.hasTalk]
    have htried : table = s.table.onEntry slot (Entry.tried s.cfg.preferences outcome (some cause)) := by
      rw [htable]
      congr 1
      funext y
      rw [Entry.tried_eq, hcounted]
    have hstep := goStep_tryFails (s := { s with ports := s.ports.put p after }) (outcome := outcome)
      (cause := some cause) hx horigin hentry hd hstate hcancel hfails
    obtain ⟨w, hw⟩ : ∃ w, w = ({ s with ports := s.ports.put p after } : State).tryFailed x slot d outcome (some cause) :=
      ⟨_, rfl⟩
    rw [← hw] at hstep
    rw [State.tryFailed, hended] at hw
    refine ⟨fun tried next e htriedStep hleft hdigits hfirst he hfree hother hattached hcall => ?_,
      fun time last hleft hmore hwait => ?_⟩
    · have htries : ¬d.triesLeft - 1 = 0 := by omega
      rw [if_neg htries] at hstep
      subst htriedStep
      have hwport : ∀ q, q ≠ p → w.port q = s.port q := fun q hqp => by
        rw [hw, raise_eq]
        exact PerPort.get_put_of_ne _ _ hqp
      have hwself : w.port p = after := by
        rw [hw, raise_eq]
        exact PerPort.get_put_self _ _ _
      have hwpower : ∀ q, (w.port q).power.usable = (s.port q).power.usable := fun q => by
        by_cases hqp : q = p
        · rw [hqp, hwself, hafterPower, hpower]
        · rw [hwport q hqp]
      have hwtable : w.table = table := by rw [hw, raise_eq, htried]
      have hwfirst : firstEligible w d.filter = some next := by
        refine Eq.trans ?_ hfirst
        exact firstEligible_congr hwtable (by rw [hw, raise_eq]) hwpower fun i => by rw [hw, raise_eq]
      have hnumber : nextNumber w = min 65535 (s.log.counter + 1) := by
        rw [hw, nextNumber, raise_eq]
        simp only [place_counter]
        exact countUp_eq_min
      have hplaced : TryPlaced w (w.newTry .plan (some d.slot) d.destination next e) e.port next e.net .dial .dialing
          { s.port e.port with
            call := .dialing
            silenceTimer := none
            inFlight := some
              ⟨⟨.dial (s.cfg.directory.get d.destination).digits, .campaign (.attempt s.serial)⟩, 40⟩ } := by
        refine .inl ⟨?_, ?_, ?_, rfl, rfl, ?_⟩
        · rw [PortFree, hwport _ hother]
          have hhalt : w.supply.halt = s.supply.halt := by rw [hw, raise_eq]
          rw [hhalt]
          exact hfree
        · rw [hwport _ hother, hattached]
        · rw [hwport _ hother, hcall]
        · rw [hwport _ hother, hw, raise_eq]
          rfl
      have hrun := runGo_beginTry (s := w) (slot := next) (e := e)
        (d := { d with excluded := d.excluded ++ [slot], triesLeft := d.triesLeft - 1 }) (by rw [hw, raise_eq])
        (by rw [hw, raise_eq]; exact hdigits) hwfirst (by rw [hwtable, he])
        (by rw [hw, raise_eq]; simp [isStandbyPort, hstandby]) (by rw [hw, raise_eq]; simp [hroute]) hplaced
      refine ⟨_, hexec 4 _ (by omega) (runGo_link hstep (by simp) hrun) ?_, ?_⟩
      · simp only [State.port]
        rw [PerPort.get_put_of_ne _ _ (Ne.symm hother)]
        exact (congrArg PortContext.queue hwself).trans hafterQ
      · simp only [reportChange_frame]
        refine ⟨?_, ?_, ?_, ?_, ?_, ?_, ?_⟩
        · simp only [State.newTry, hnumber]
          rw [hw, raise_eq]
        · rw [hw, raise_eq]
        · rw [← hwtable]
          rfl
        · simp only [State.withTry, hnumber]
          rw [hw, raise_eq, hlog]
        · rw [hw]
          exact (raise_frame _ _).2.2.2.2.2.2.1
        · rw [hw]
          exact (raise_frame _ _).2.2.2.2.2.1
        · rw [hw]
          exact (raise_frame _ _).1
    · have htries : d.triesLeft - 1 = 0 := by omega
      rw [if_pos htries] at hstep
      have hrun := runGo_link hstep (by simp) (runGo_link (goStep_stepFails (s := w) (by rw [hw, raise_eq])
        (by rw [hw, raise_eq]; exact hmore)) (by simp) (runGo_walk_wait (by rw [hw, raise_eq]; exact hwait)))
      refine ⟨_, hexec 4 _ (by omega) hrun ?_, ?_⟩
      · rw [hw, raise_eq]
        simpa [State.port] using hafterQ
      · simp only [reportChange_frame, State.onCampaign]
        refine ⟨?_, ?_, ?_, ?_, ?_, ?_, ?_⟩
        · rw [hw, raise_eq]
        · rw [hw, raise_eq]
        · rw [hw, raise_eq, htried]
        · rw [hw, raise_eq, hlog]
        · rw [hw, raise_eq]
        · rw [hw, raise_eq]
        · rw [hw]
          exact (raise_frame _ _).1

end Sys2Proof.Machine
end

section
/-! A connected call that drops with a standby READY (04 R88 to R91): the recovery dials over it in the same event. -/

namespace Sys2Proof.Machine

variable {s t : State} {p : Port}

/-! ## The links of a recovery -/

/-- The state in which a dropped try hands over its READY standby and recovery begins. -/
def State.handedOver (s : State) (x : CurrentTry) (b : Standby) (cause : Option Byte) (slot : TableSlot)
    (destination : DestNumber) : State :=
  raise (.standby none b.entry b.port (some .callEnded))
    (raise (.attempt (x.ended .dropped cause) (s.log.place (x.ended .dropped cause)).records.length
        (s.log.place (x.ended .dropped cause)).truncated)
      { s with
        log := s.log.place (x.ended .dropped cause)
        table := ((s.table.onEntry slot fun y =>
          { y with holds := { y.holds with call := false } }).onEntry slot
            (Entry.tried s.cfg.preferences .dropped cause)).onEntry b.entry fun y =>
              { y with holds := { y.holds with standby := false, attempt := true } }
        campaign := { s.campaign with
          phase := some .recovery
          recoveries := countUp 8 s.campaign.recoveries
          recovery := some
            { destination := destination, lostPort := x.port, lostNet := x.net, toLastResort := false }
          standby := none
          callEntry := none
          callPort := none
          route := none
          ringTimer := none
          attempt := none } })

theorem goStep_dropped {cause : Option Byte} {x : CurrentTry} {b : Standby} {slot : TableSlot} {e : Entry}
    {destination : DestNumber} (hstate : s.campaign.state = .talk) (hphase : s.campaign.phase = some .plan)
    (hx : s.campaign.attempt = some x) (horigin : x.origin.dialed = true) (hdest : x.destination = some destination)
    (hentry : x.entry = some slot) (hcallEntry : s.campaign.callEntry = some slot)
    (hcancel : s.campaign.cancelPending = false) (hb : s.campaign.standby = some b) (hready : b.status = .ready)
    (hother : b.entry ≠ slot) (he : s.table.entry b.entry = some e) (hbar : e.preference ≠ .bar) :
    goStep (.tryEnds .dropped cause) s =
      (.recoveryCheck (some b.entry), s.handedOver x b cause slot destination) := by
  have hleft : s.leftTalk = leaveTalk s := if_pos hstate
  have hend := endTry_eq (s := s) (outcome := .dropped) (cause := cause) hx hentry horigin
  rw [hleft, leaveTalk_eq hcallEntry] at hend
  rw [goStep_tryEnds hx]
  revert hend
  generalize endTry .dropped cause s = u
  intro hend
  have hcancel' : u.campaign.cancelPending = false := by rw [hend, raise_eq]; exact hcancel
  have hb' : u.campaign.standby = some b := by rw [hend, raise_eq]; exact hb
  have he' : u.table.entry b.entry = some e := by
    rw [hend, raise_eq]
    dsimp only
    rw [NetTable.entry_onEntry_of_ne _ _ hother, NetTable.entry_onEntry_of_ne _ _ hother, he]
  have hany : b.status = .ready ∧ ((u.table.entry b.entry).any fun e => e.preference != .bar) = true :=
    ⟨hready, by simp [he', hbar]⟩
  have hhanded : handOver u = (some b.entry, grantHold .attempt b.entry (clearStandby .callEnded u)) := by
    simp only [handOver, hb', hany, and_self, if_true]
  simp only [afterTry, hcancel', Bool.false_eq_true, if_false, horigin, if_true, beginRecovery, hhanded, hdest,
    Option.getD_some]
  rw [clearStandby_some hb', State.handedOver]
  refine congrArg (Prod.mk _) ?_
  rw [hend]
  simp only [raise_eq, grantHold, countLoss, State.onTable, State.onCampaign, NetTable.onEntry_onEntry, hphase]
  rfl

/-- A recovery within its limit goes on with a try over the standby handed over. -/
theorem runGo_recovery {slot : TableSlot} {e : Entry} {r : Recovery} {d : DialStep} {state : CampaignState}
    {stage : TryStage} {after : PortContext} (hlimit : s.campaign.recoveries ≤ s.cfg.tuning.recoveryLimit)
    (hr : s.campaign.recovery = some r) (hstep : r.toLastResort = false) (hd : s.campaign.dialStep = some d)
    (hdigits : (s.cfg.directory.get r.destination).digits ≠ []) (he : s.table.entry slot = some e)
    (hstandby : isStandbyPort s e.port = false) (hroute : s.campaign.route ≠ some e.port)
    (h : TryPlaced s (s.newTry .recovery (some d.slot) r.destination slot e) e.port slot e.net state stage after) :
    runGo 3 (.recoveryCheck (some slot)) s = some { s.withTry .recovery (some d.slot) r.destination slot e with
      campaign := { s.campaign with
        state := state
        attempt := some { s.newTry .recovery (some d.slot) r.destination slot e with stage := stage } }
      ports := s.ports.put e.port after } := by
  have hcheck : goStep (.recoveryCheck (some slot)) s = (.recoveryTry (some slot), s) := by
    simp only [goStep, checkRecovery, Nat.not_lt.mpr hlimit, if_false]
  have hhas : hasDigits s r.destination = true := by simpa [hasDigits] using hdigits
  refine runGo_link hcheck (by simp) (runGo_last ?_ (by simp))
  rw [← bringTry_withTry hstandby hroute h]
  simp only [goStep, beginRecoveryTry, hr, hhas, if_true, recoveryEntry, he, hstep, Bool.false_eq_true, if_false, hd,
    Option.map_some, takeEntry_createTry]

/-- Settles O47. -/
theorem dropRecoversOverStandby : Obligations.DropRecoversOverStandby := by
  unfold Obligations.DropRecoversOverStandby
  intro s p x b d destination slot lost e cause moduleCause hstate hphase hx hstage hport horigin hdest hentry hcallEntry
    hd hcancel hrecoveries hlimit hdigits hb hready hotherPort hotherEntry hlost he heport hbar hfree hattached hcall
    hpower hconnected hflight hq hcause
  obtain ⟨w, hw⟩ : ∃ w, w = (callGone p s).handedOver x b (some moduleCause) slot destination := ⟨_, rfl⟩
  have hdropped := goStep_dropped (s := callGone p s) (cause := some moduleCause) (by exact hstate) hphase hx
    (by rw [horigin]; rfl) hdest hentry hcallEntry hcancel hb hready hotherEntry he hbar
  rw [← hw] at hdropped
  have hcount : countUp 8 s.campaign.recoveries = s.campaign.recoveries + 1 := by
    rw [countUp_eq_min]
    omega
  have hwport : ∀ q, q ≠ p → w.port q = s.port q := fun q hqp => by
    rw [hw, State.handedOver, raise_eq, raise_eq]
    exact PerPort.get_put_of_ne _ _ hqp
  have hwself : w.port p = { s.port p with call := .none, silenceTimer := none, inFlight := none, rx := .hunting } := by
    rw [hw, State.handedOver, raise_eq, raise_eq]
    exact PerPort.get_put_self _ _ _
  have hwcampaign : w.campaign = { s.campaign with
      phase := some .recovery
      recoveries := s.campaign.recoveries + 1
      recovery := some { destination := destination, lostPort := some p, lostNet := x.net, toLastResort := false }
      standby := none
      callEntry := none
      callPort := none
      route := none
      ringTimer := none
      attempt := none } := by
    rw [hw, State.handedOver, raise_eq, raise_eq, hport, ← hcount]
    rfl
  have hwtable : w.table = ((s.table.onEntry slot fun y =>
      { y with holds := { y.holds with call := false } }).onEntry slot
        (Entry.tried s.cfg.preferences .dropped (some moduleCause))).onEntry b.entry fun y =>
          { y with holds := { y.holds with standby := false, attempt := true } } := by
    rw [hw, State.handedOver, raise_eq, raise_eq]
    rfl
  have hwlog : w.log = s.log.place (x.ended .dropped (some moduleCause)) := by
    rw [hw, State.handedOver, raise_eq, raise_eq]
    rfl
  have hwrest : w.cfg = s.cfg ∧ w.supply = s.supply ∧ w.survey = s.survey ∧ w.serial = s.serial := by
    rw [hw, State.handedOver, raise_eq, raise_eq]
    exact ⟨rfl, rfl, rfl, rfl⟩
  obtain ⟨hwcfg, hwsupply, hwsurvey, hwserial⟩ := hwrest
  have hwoutside : w.outside = s.outside := by
    rw [hw, State.handedOver, (raise_frame _ _).1, (raise_frame _ _).1]
    rfl
  have hwentry : w.table.entry b.entry =
      some { e with holds := { e.holds with standby := false, attempt := true } } := by
    rw [hwtable, NetTable.entry_onEntry_self, NetTable.entry_onEntry_of_ne _ _ hotherEntry,
      NetTable.entry_onEntry_of_ne _ _ hotherEntry, he]
    rfl
  have hnumber : nextNumber w = min 65535 (s.log.counter + 1) := by
    rw [nextNumber, hwlog, place_counter]
    exact countUp_eq_min
  rw [← heport] at hotherPort hfree hattached hcall ⊢
  have hplaced : TryPlaced w (w.newTry .recovery (some d.slot) destination b.entry
        { e with holds := { e.holds with standby := false, attempt := true } }) e.port b.entry e.net .dial .dialing
      { s.port e.port with
        call := .dialing
        silenceTimer := none
        inFlight := some
          ⟨⟨.dial (s.cfg.directory.get destination).digits, .campaign (.attempt s.serial)⟩, 40⟩ } := by
    refine .inl ⟨?_, ?_, ?_, rfl, rfl, ?_⟩
    · rw [PortFree, hwport _ hotherPort, hwsupply]
      exact hfree
    · rw [hwport _ hotherPort, hattached]
    · rw [hwport _ hotherPort, hcall]
    · rw [hwport _ hotherPort, State.newTry, hwcfg, hwserial]
  have hrun := runGo_recovery (s := w) (slot := b.entry)
    (r := { destination := destination, lostPort := some p, lostNet := x.net, toLastResort := false }) (d := d)
    (by rw [hwcampaign, hwcfg]; exact hrecoveries) (by rw [hwcampaign]) rfl (by rw [hwcampaign]; exact hd)
    (by rw [hwcfg]; exact hdigits) hwentry (by simp [isStandbyPort, hwcampaign]) (by simp [hwcampaign]) hplaced
  have houtcome : endedOutcome x (endCauseOf cause) = some .dropped := by
    simp only [endedOutcome, hstage]
    rw [if_neg fun h => hcause (endCauseOf_eq_farClear.mp h)]
  have hexec := exec_callEnded_try (ended := cause) hpower hq (by simp [hconnected]) (by simp [hconnected]) hx hport
    (.inr (.inr hstage)) (.inl hflight) houtcome
    (runGo_link hdropped (by simp) hrun) (by omega) (by
      simp only [State.port]
      rw [PerPort.get_put_of_ne _ _ (Ne.symm hotherPort)]
      exact (congrArg PortContext.queue hwself).trans hq)
  refine ⟨_, hexec, ?_⟩
  simp only [State.port, reportChange_frame]
  refine ⟨?_, ?_, ?_, fun q hqp hqe => ?_, ?_, ?_, fun i hi hib => ?_, ?_, ⟨x.ended .dropped (some moduleCause), ?_, rfl,
    rfl, rfl, rfl, rfl⟩, ?_, ?_, ?_⟩
  · rw [State.newTry, hnumber, hwcfg, hwserial, hwcampaign]
  · rw [PerPort.get_put_self]
  · rw [PerPort.get_put_of_ne _ _ (Ne.symm hotherPort)]
    refine hwself.trans ?_
    rw [← hflight]
    rfl
  · rw [PerPort.get_put_of_ne _ _ hqe]
    exact hwport q hqp
  · rw [State.withTry, NetTable.entry_onEntry_of_ne _ _ (Ne.symm hotherEntry), hwtable,
      NetTable.entry_onEntry_of_ne _ _ (Ne.symm hotherEntry), NetTable.entry_onEntry_self,
      NetTable.entry_onEntry_self, hlost, Option.map_some, Option.map_some, Entry.tried_eq]
    rfl
  · rw [State.withTry, NetTable.entry_onEntry_self, hwentry]
    rfl
  · rw [State.withTry, NetTable.entry_onEntry_of_ne _ _ hib, hwtable, NetTable.entry_onEntry_of_ne _ _ hib,
      NetTable.entry_onEntry_of_ne _ _ hi, NetTable.entry_onEntry_of_ne _ _ hi]
  · rw [State.withTry, hnumber]
  · rw [State.withTry, hwlog]
    unfold AttemptLog.place
    split <;> simp
  · exact hwsupply
  · exact hwsurvey
  · exact hwoutside

end Sys2Proof.Machine
end

section
/-! A SCAN_RESULT at the Network Table (01 R10): what its three passes make of every entry, the slot a new network
takes (01 R3, R24), and what the SCAN's submitter is told (08 R157, 04 R102, R103). -/

namespace Sys2Proof.Machine

variable {s t u : State} {p : Port} {m : Sample} {net : NetworkId}

/-! ## Changes of the table alone -/

/-- The states differ in the Network Table and in what has been reported, and in nothing else. -/
def State.TableAlone (s t : State) : Prop :=
  t.outside = s.outside ∧ ∃ (table : NetTable) (link : Link), t = { s with table := table, link := link }

namespace State.TableAlone

theorem refl (s : State) : s.TableAlone s := ⟨rfl, s.table, s.link, rfl⟩

theorem trans (h : s.TableAlone t) (k : t.TableAlone u) : s.TableAlone u := by
  obtain ⟨hout, table, link, rfl⟩ := h
  obtain ⟨kout, table', link', rfl⟩ := k
  exact ⟨kout.trans hout, table', link', rfl⟩

theorem ite {c : Prop} [Decidable c] {a b : State} (h : s.TableAlone a) (k : s.TableAlone b) :
    s.TableAlone (if c then a else b) := by
  split
  · exact h
  · exact k

theorem raise (h : s.TableAlone t) (r : Report) : s.TableAlone (raise r t) := by
  refine h.trans ⟨(raise_frame r t).1, t.table, t.link.raised t.cfg.mask r, ?_⟩
  rw [raise_eq]

theorem onTable (h : s.TableAlone t) (f : NetTable → NetTable) : s.TableAlone (t.onTable f) :=
  h.trans ⟨rfl, f t.table, t.link, rfl⟩

theorem frame (h : s.TableAlone t) : t.cfg = s.cfg ∧ t.log = s.log ∧ t.campaign = s.campaign ∧ t.ports = s.ports
    ∧ t.survey = s.survey ∧ t.supply = s.supply := by
  obtain ⟨-, table, link, rfl⟩ := h
  exact ⟨rfl, rfl, rfl, rfl, rfl, rfl⟩

end State.TableAlone

theorem sampleSlot_alone (slot : TableSlot) : s.TableAlone (sampleSlot slot m s) := by
  unfold sampleSlot
  split
  · exact .refl s
  · exact .ite (((State.TableAlone.refl s).onTable _).raise _) ((State.TableAlone.refl s).onTable _)

theorem sampleNetwork_alone : s.TableAlone (sampleNetwork p m s) := by
  unfold sampleNetwork
  split
  · exact sampleSlot_alone _
  · exact .refl s

theorem samplePass_alone (l : List Sample) : s.TableAlone (samplePass p l s) := by
  induction l generalizing s with
  | nil => exact .refl s
  | cons m rest ih => exact sampleNetwork_alone.trans ih

theorem freeSlot_alone (slot : TableSlot) (cause : FreeCause) : s.TableAlone (freeSlot slot cause s) :=
  ((State.TableAlone.refl s).onTable _).raise _

theorem createEntry_alone (slot : TableSlot) : s.TableAlone (createEntry slot p m s) :=
  ((State.TableAlone.refl s).onTable _).raise _

theorem loseEntry_alone (slot : TableSlot) : s.TableAlone (loseEntry slot s) := by
  unfold loseEntry
  split
  · exact .refl s
  · exact .ite (((State.TableAlone.refl s).onTable _).raise _) (.refl s)

theorem eachSlot_loseEntry_alone (slots : List TableSlot) : s.TableAlone (eachSlot loseEntry slots s) := by
  induction slots generalizing s with
  | nil => exact .refl s
  | cons slot rest ih => exact (loseEntry_alone slot).trans ih

/-! ## The first pass (01 R5, R8, R9) -/

/-- An entry after its samples of one SCAN_RESULT, in their order. -/
def Entry.sampledAll (prefs : List PreferenceRecord) (samples : List Sample) (e : Entry) : Entry :=
  samples.foldl (fun x m => x.sampled prefs m) e

@[simp] theorem sampled_identity (prefs : List PreferenceRecord) (m : Sample) (e : Entry) :
    (e.sampled prefs m).port = e.port ∧ (e.sampled prefs m).net = e.net := by
  simp [Entry.sampled]

@[simp] theorem sampledAll_identity (prefs : List PreferenceRecord) (samples : List Sample) (e : Entry) :
    (e.sampledAll prefs samples).port = e.port ∧ (e.sampledAll prefs samples).net = e.net := by
  induction samples generalizing e with
  | nil => exact ⟨rfl, rfl⟩
  | cons m rest ih => exact ⟨(ih _).1.trans (sampled_identity _ _ _).1, (ih _).2.trans (sampled_identity _ _ _).2⟩

theorem sampleSlot_table (slot : TableSlot) :
    (sampleSlot slot m s).table = s.table.onEntry slot (Entry.sampled s.cfg.preferences m) := by
  unfold sampleSlot NetTable.onEntry
  split
  next he =>
    refine NetTable.ext_entry (fun i => ?_) rfl
    rw [NetTable.entry_putEntry]
    split
    next h => rw [h, he]; rfl
    next => rfl
  next e he =>
    rw [he]
    dsimp only
    split
    · exact (raise_frame _ _).2.1
    · rfl

theorem NetTable.find_of_distinct {tab : NetTable} (h : tab.distinct) {i : TableSlot} {e : Entry}
    (he : tab.entry i = some e) : tab.find e.port e.net = some i := by
  cases hfind : tab.find e.port e.net with
  | none => exact absurd ⟨rfl, rfl⟩ (NetTable.find_none.mp hfind i e he)
  | some j =>
    obtain ⟨d, hd, hport, hnet⟩ := NetTable.find_some hfind
    rw [h i j e d he hd hport.symm hnet.symm]

/-- The entry of a network on a port is the only one that a sample of it changes. -/
theorem sampleNetwork_entry (h : s.table.distinct) (i : TableSlot) : (sampleNetwork p m s).table.entry i =
    (s.table.entry i).map fun e => if e.port = p ∧ e.net = m.net then e.sampled s.cfg.preferences m else e := by
  unfold sampleNetwork
  split
  next slot hfind =>
    obtain ⟨d, hd, hport, hnet⟩ := NetTable.find_some hfind
    rw [sampleSlot_table, NetTable.entry_onEntry]
    split
    next heq => rw [heq, hd, Option.map_some, Option.map_some, if_pos ⟨hport, hnet⟩]
    next hne =>
      cases he : s.table.entry i with
      | none => rfl
      | some e =>
        rw [Option.map_some, if_neg]
        rintro ⟨hp, hn⟩
        exact hne (h i slot e d he hd (hp.trans hport.symm) (hn.trans hnet.symm))
  next hfind =>
    cases he : s.table.entry i with
    | none => rfl
    | some e => rw [Option.map_some, if_neg (NetTable.find_none.mp hfind i e he)]

/-- Distinctness is a matter of the entries' ports and networks alone. -/
theorem NetTable.distinct_of_map {tab tab' : NetTable} {f : Entry → Entry}
    (hf : ∀ e, (f e).port = e.port ∧ (f e).net = e.net) (hentry : ∀ i, tab'.entry i = (tab.entry i).map f)
    (h : tab.distinct) : tab'.distinct := by
  intro i j a b ha hb hport hnet
  rw [hentry] at ha hb
  obtain ⟨c, hc, rfl⟩ := Option.map_eq_some_iff.mp ha
  obtain ⟨d, hd, rfl⟩ := Option.map_eq_some_iff.mp hb
  exact h i j c d hc hd ((hf c).1.symm.trans (hport.trans (hf d).1)) ((hf c).2.symm.trans (hnet.trans (hf d).2))

/-- The first pass samples an entry of the port once for each listing of its network, and leaves every other. -/
theorem samplePass_entry (l : List Sample) (h : s.table.distinct) (i : TableSlot) :
    (samplePass p l s).table.entry i = (s.table.entry i).map fun e =>
      if e.port = p then e.sampledAll s.cfg.preferences (l.filter fun m => m.net == e.net) else e := by
  induction l generalizing s with
  | nil => simp [samplePass, Entry.sampledAll]
  | cons m rest ih =>
    have hidentity (e : Entry) : (if e.port = p ∧ e.net = m.net then e.sampled s.cfg.preferences m else e).port = e.port
        ∧ (if e.port = p ∧ e.net = m.net then e.sampled s.cfg.preferences m else e).net = e.net := by
      split <;> simp
    have hdistinct : (sampleNetwork p m s).table.distinct :=
      NetTable.distinct_of_map hidentity (sampleNetwork_entry h) h
    rw [samplePass, ih hdistinct, sampleNetwork_entry h, Option.map_map, (sampleNetwork_alone (s := s)).frame.1]
    congr 1
    funext e
    simp only [Function.comp_apply, (hidentity e).1, (hidentity e).2]
    by_cases hport : e.port = p
    · by_cases hnet : e.net = m.net
      · simp [hport, hnet, Entry.sampledAll]
      · simp [hport, hnet, Ne.symm hnet]
    · simp [hport]

/-! ## The third pass (01 R4) -/

theorem eachSlot_loseAndTell (slots : List TableSlot) (h : s.campaign.standby = none) :
    eachSlot loseAndTell slots s = eachSlot loseEntry slots s := by
  induction slots generalizing s with
  | nil => rfl
  | cons slot rest ih =>
    rw [eachSlot, eachSlot, loseAndTell_of_no_standby h]
    exact ih (by rw [(loseEntry_alone slot).frame.2.2.1]; exact h)

theorem losePass_eq (networks : List Sample) (h : s.campaign.standby = none) :
    losePass p networks s = eachSlot loseEntry (s.table.slotsWhere fun e =>
      e.state == .seen && e.port == p && !(networks.map Sample.net).contains e.net) s :=
  eachSlot_loseAndTell _ h

/-- The third pass makes LOST every entry of the port whose network is not listed, one LOST before staying so. -/
theorem losePass_entry (networks : List Sample) (h : s.campaign.standby = none) (i : TableSlot) :
    (losePass p networks s).table.entry i = (s.table.entry i).map fun e =>
      if e.port = p ∧ e.net ∉ networks.map Sample.net then { e with state := .lost } else e := by
  rw [losePass_eq networks h, eachSlot_lose_entry]
  cases he : s.table.entry i with
  | none => rfl
  | some e =>
    simp only [Option.map_some, NetTable.mem_slotsWhere, he, Option.some.injEq, exists_eq_left']
    cases hstate : e.state with
    | seen => simp
    | lost => simp [← hstate]

theorem losePass_alone (networks : List Sample) (h : s.campaign.standby = none) :
    s.TableAlone (losePass p networks s) := by
  rw [losePass_eq networks h]
  exact eachSlot_loseEntry_alone _

/-- Where the port has no SEEN entry that is not listed, the third pass does nothing. -/
theorem losePass_idle {networks : List Sample}
    (h : ∀ i e, s.table.entry i = some e → e.port = p → e.state = .lost) : losePass p networks s = s := by
  have hnone : s.table.slotsWhere (fun e =>
      e.state == .seen && e.port == p && !(networks.map Sample.net).contains e.net) = [] := by
    rw [List.eq_nil_iff_forall_not_mem]
    intro i hi
    obtain ⟨e, he, htest⟩ := NetTable.mem_slotsWhere.mp hi
    simp only [Bool.and_eq_true, beq_iff_eq] at htest
    rw [h i e he htest.1.2] at htest
    exact EntryState.noConfusion htest.1.1
  rw [losePass, hnone, eachSlot]

/-! ## The slot of a new network (01 R3, R24) -/

theorem worstSlot_mem {worse : Entry → Entry → Bool} {l : List (TableSlot × Entry)} {x : TableSlot × Entry}
    (h : worstSlot worse l = some x) : x ∈ l := by
  induction l generalizing x with
  | nil => exact absurd h (by simp [worstSlot])
  | cons c rest ih =>
    unfold worstSlot at h
    split at h
    · cases h
      exact List.mem_cons_self
    next d hd =>
      split at h <;> cases h
      · exact List.mem_cons_of_mem _ (ih hd)
      · exact List.mem_cons_self

/-- The worst of a list in slot order is the one that no other is worse than, the earliest of its equals. -/
theorem worstSlot_eq {worse : Entry → Entry → Bool} {l : List (TableSlot × Entry)} {d : TableSlot × Entry}
    (hsorted : l.Pairwise fun a b => a.1 < b.1) (hd : d ∈ l) (hworst : ∀ c ∈ l, worse c.2 d.2 = false)
    (hfirst : ∀ c ∈ l, worse d.2 c.2 = false → d.1 ≤ c.1) : worstSlot worse l = some d := by
  induction l with
  | nil => exact absurd hd List.not_mem_nil
  | cons c rest ih =>
    rw [List.pairwise_cons] at hsorted
    rw [worstSlot]
    rcases List.mem_cons.mp hd with rfl | hrest
    · split
      · rfl
      next x hx => simp [hworst x (List.mem_cons_of_mem _ (worstSlot_mem hx))]
    · rw [ih hsorted.2 hrest (fun x hx => hworst x (List.mem_cons_of_mem _ hx))
        fun x hx => hfirst x (List.mem_cons_of_mem _ hx)]
      have hworse : worse d.2 c.2 = true := by
        by_contra hnot
        have hle := hfirst c List.mem_cons_self (Bool.eq_false_iff.mpr hnot)
        exact absurd (hsorted.1 d hrest) (not_lt.mpr hle)
      simp [hworse]

theorem mem_entriesWhere {tab : NetTable} {test : Entry → Bool} {c : TableSlot × Entry} :
    c ∈ tab.entriesWhere test ↔ tab.entry c.1 = some c.2 ∧ test c.2 = true := by
  obtain ⟨i, e⟩ := c
  simp only [NetTable.entriesWhere, tableSlots, List.mem_filterMap, List.mem_finRange, true_and]
  constructor
  · rintro ⟨j, hj⟩
    split at hj
    next d hd =>
      split at hj
      next htest => cases hj; exact ⟨hd, htest⟩
      next => cases hj
    next => cases hj
  · rintro ⟨he, htest⟩
    exact ⟨i, by simp [he, htest]⟩

theorem entriesWhere_sorted (tab : NetTable) (test : Entry → Bool) :
    (tab.entriesWhere test).Pairwise fun a b => a.1 < b.1 := by
  refine List.Pairwise.filterMap _ (fun i j hij a ha b hb => ?_) (List.pairwise_lt_finRange 24)
  have hslot {k : TableSlot} {c : TableSlot × Entry} (hc : (match tab.entry k with
      | some e => if test e then some (k, e) else none
      | none => none) = some c) : c.1 = k := by
    split at hc
    · split at hc <;> cases hc
      rfl
    · cases hc
  rw [hslot ha, hslot hb]
  exact hij

theorem worstSlot_none {worse : Entry → Entry → Bool} {tab : NetTable} {test : Entry → Bool}
    (h : ∀ i e, tab.entry i = some e → test e = false) :
    (worstSlot worse (tab.entriesWhere test)).map Prod.fst = none := by
  have hnone : tab.entriesWhere test = [] := by
    rw [List.eq_nil_iff_forall_not_mem]
    intro c hc
    obtain ⟨he, htest⟩ := mem_entriesWhere.mp hc
    rw [h _ _ he] at htest
    exact Bool.noConfusion htest
  rw [hnone]
  rfl

/-- The entry is the oldest LOST one that no one holds, in the lowest slot of its equals (01 R24). -/
def NetTable.OldestLost (tab : NetTable) (slot : TableSlot) (old : Entry) : Prop :=
  old.state = .lost ∧ ∀ i x, tab.entry i = some x → x.state = .lost → x.holds = Holds.empty →
    x.age < old.age ∨ (x.age = old.age ∧ slot ≤ i)

/-- No LOST entry is free of holds, and this one is the lowest-scored below the floor that is, the oldest and then
the lowest slot of its equals (01 R24). -/
def NetTable.LowestSeen (tab : NetTable) (floor : Nat) (slot : TableSlot) (old : Entry) : Prop :=
  old.state = .seen ∧ old.score < floor
    ∧ (∀ i x, tab.entry i = some x → x.holds = Holds.empty → x.state = .seen)
    ∧ ∀ i x, tab.entry i = some x → x.holds = Holds.empty → x.score < floor →
      old.score < x.score ∨ (x.score = old.score ∧ (x.age < old.age ∨ (x.age = old.age ∧ slot ≤ i)))

/-- The slot that a new network takes (01 R3, R24). -/
def NetTable.SlotForNew (tab : NetTable) (floor : Nat) (slot : TableSlot) : Prop :=
  (tab.entry slot = none ∧ ∀ i, i < slot → tab.entry i ≠ none)
    ∨ ((∀ i, tab.entry i ≠ none) ∧ ∃ old, tab.entry slot = some old ∧ old.holds = Holds.empty
      ∧ (tab.OldestLost slot old ∨ tab.LowestSeen floor slot old))

theorem freeSlot?_lowest {tab : NetTable} {slot : TableSlot} (hfree : tab.entry slot = none)
    (hbelow : ∀ i, i < slot → tab.entry i ≠ none) : tab.freeSlot? = some slot := by
  cases h : tab.freeSlot? with
  | none =>
    have := List.find?_eq_none.mp h slot (List.mem_finRange slot)
    simp [hfree] at this
  | some i =>
    have hi : tab.entry i = none := by simpa using List.find?_some h
    have hle : slot ≤ i := not_lt.mp fun hlt => hbelow i hlt hi
    obtain ⟨-, before, after, hsplit, hbefore⟩ := List.find?_eq_some_iff_append.mp h
    have hsorted : (before ++ i :: after).Pairwise (· < ·) := hsplit ▸ List.pairwise_lt_finRange 24
    have hmem : slot ∈ before ++ i :: after := hsplit ▸ List.mem_finRange slot
    rw [List.pairwise_append, List.pairwise_cons] at hsorted
    rcases List.mem_append.mp hmem with hin | hin
    · have := hbefore slot hin
      simp [hfree] at this
    · rcases List.mem_cons.mp hin with rfl | hin
      · rfl
      · exact absurd (hsorted.2.1.1 slot hin) (not_lt.mpr hle)

theorem freeSlot?_none {tab : NetTable} (h : ∀ i, tab.entry i ≠ none) : tab.freeSlot? = none :=
  List.find?_eq_none.mpr fun i _ => by simpa using h i

theorem evictLost_oldest {tab : NetTable} {slot : TableSlot} {old : Entry} (he : tab.entry slot = some old)
    (hholds : old.holds = Holds.empty) (h : tab.OldestLost slot old) : tab.evictLost = some slot := by
  obtain ⟨hlost, holdest⟩ := h
  have hage {c : TableSlot × Entry} (hc : c ∈ tab.entriesWhere fun e => e.state == .lost && !e.holds.any) :
      c.2.age < old.age ∨ (c.2.age = old.age ∧ slot ≤ c.1) := by
    obtain ⟨hentry, htest⟩ := mem_entriesWhere.mp hc
    simp only [Bool.and_eq_true, beq_iff_eq, Bool.not_eq_true', Holds.any_eq_false_iff] at htest
    exact holdest c.1 c.2 hentry htest.1 htest.2
  have hworst := worstSlot_eq (worse := fun d c => decide (c.age < d.age)) (d := (slot, old))
    (entriesWhere_sorted tab fun e => e.state == .lost && !e.holds.any)
    (mem_entriesWhere.mpr ⟨he, by simp [hlost, Holds.any_eq_false_iff.mpr hholds]⟩)
    (fun c hc => by have := hage hc; simp; omega)
    (fun c hc hnot => by
      have hle : old.age ≤ c.2.age := by simpa using hnot
      rcases hage hc with h | h
      · omega
      · exact h.2)
  rw [NetTable.evictLost, hworst, Option.map_some]

theorem evictSeen_lowest {tab : NetTable} {floor : Nat} {slot : TableSlot} {old : Entry}
    (he : tab.entry slot = some old) (hholds : old.holds = Holds.empty) (h : tab.LowestSeen floor slot old) :
    tab.evictLost = none ∧ tab.evictSeen floor = some slot := by
  obtain ⟨hseen, hfloor, hnolost, hlowest⟩ := h
  refine ⟨worstSlot_none fun i e hi => ?_, ?_⟩
  · by_contra htest
    simp only [Bool.not_eq_false, Bool.and_eq_true, beq_iff_eq, Bool.not_eq_true', Holds.any_eq_false_iff] at htest
    rw [hnolost i e hi htest.2] at htest
    exact EntryState.noConfusion htest.1
  · have hscore {c : TableSlot × Entry}
        (hc : c ∈ tab.entriesWhere fun e => e.state == .seen && !e.holds.any && decide (e.score < floor)) :
        old.score < c.2.score ∨ (c.2.score = old.score ∧ (c.2.age < old.age ∨ (c.2.age = old.age ∧ slot ≤ c.1))) := by
      obtain ⟨hentry, htest⟩ := mem_entriesWhere.mp hc
      simp only [Bool.and_eq_true, beq_iff_eq, Bool.not_eq_true', Holds.any_eq_false_iff, decide_eq_true_eq] at htest
      exact hlowest c.1 c.2 hentry htest.1.2 htest.2
    have hworst := worstSlot_eq
      (worse := fun d c => decide (d.score < c.score) || (d.score == c.score && decide (c.age < d.age)))
      (d := (slot, old))
      (entriesWhere_sorted tab fun e => e.state == .seen && !e.holds.any && decide (e.score < floor))
      (mem_entriesWhere.mpr ⟨he, by simp [hseen, Holds.any_eq_false_iff.mpr hholds, hfloor]⟩)
      (fun c hc => by have := hscore hc; simp; omega)
      (fun c hc hnot => by
        have hle : c.2.score ≤ old.score ∧ (old.score = c.2.score → old.age ≤ c.2.age) := by simpa using hnot
        rcases hscore hc with h | ⟨heq, h | h⟩
        · omega
        · have := hle.2 heq.symm
          omega
        · exact h.2)
    rw [NetTable.evictSeen, hworst, Option.map_some]

/-- A new network's entry goes into its slot, whatever stood there; nothing else of the table changes. -/
theorem recordNew_entry {slot : TableSlot} (h : s.table.SlotForNew s.cfg.tuning.floor slot) :
    s.TableAlone (recordNew p m s) ∧ ∀ i, (recordNew p m s).table.entry i =
      if i = slot then some (newEntry s.cfg.preferences p m) else s.table.entry i := by
  have hcreate : (createEntry slot p m s).table = s.table.putEntry slot (some (newEntry s.cfg.preferences p m)) :=
    (raise_frame _ _).2.1
  have hevict : (createEntry slot p m (freeSlot slot .evicted s)).table =
      s.table.putEntry slot (some (newEntry s.cfg.preferences p m)) := by
    rw [createEntry, (raise_frame _ _).2.1, freeSlot, State.onTable_table, (raise_frame _ _).2.1, State.onTable_table,
      NetTable.putEntry_putEntry]
    simp [raise_eq]
  have hevicted := (freeSlot_alone (s := s) slot .evicted).trans (createEntry_alone (p := p) (m := m) slot)
  unfold recordNew
  rcases h with ⟨hfree, hbelow⟩ | ⟨hfull, old, he, hholds, hlost | hseen⟩
  · simp only [freeSlot?_lowest hfree hbelow]
    exact ⟨createEntry_alone slot, fun i => by rw [hcreate, NetTable.entry_putEntry]⟩
  · simp only [freeSlot?_none hfull, evictLost_oldest he hholds hlost]
    exact ⟨hevicted, fun i => by rw [hevict, NetTable.entry_putEntry]⟩
  · simp only [freeSlot?_none hfull, evictSeen_lowest he hholds hseen]
    exact ⟨hevicted, fun i => by rw [hevict, NetTable.entry_putEntry]⟩

/-- Where every slot is taken by an entry that is held or SEEN at or above the floor, there is no slot. -/
theorem recordNew_full (h : ∀ i, ∃ x, s.table.entry i = some x
    ∧ (x.holds ≠ Holds.empty ∨ (x.state = .seen ∧ s.cfg.tuning.floor ≤ x.score))) :
    recordNew p m s = raise (.netTableFull p m.net) s := by
  have hkept {i : TableSlot} {e : Entry} (he : s.table.entry i = some e) (hfree : e.holds.any = false) :
      e.state = .seen ∧ s.cfg.tuning.floor ≤ e.score := by
    obtain ⟨x, hx, hkeep⟩ := h i
    obtain rfl : e = x := Option.some.inj (he.symm.trans hx)
    exact hkeep.resolve_left (not_not.mpr (Holds.any_eq_false_iff.mp hfree))
  have hfull : s.table.freeSlot? = none := freeSlot?_none fun i => by
    obtain ⟨x, hx, -⟩ := h i
    simp [hx]
  have hlost : s.table.evictLost = none := worstSlot_none fun i e he => by
    cases hany : e.holds.any with
    | true => simp
    | false => simp [(hkept he hany).1]
  have hseen : s.table.evictSeen s.cfg.tuning.floor = none := worstSlot_none fun i e he => by
    cases hany : e.holds.any with
    | true => simp
    | false => simp [(hkept he hany).2]
  simp only [recordNew, hfull, hlost, hseen]

/-! ## The three passes together (01 R10) -/

/-- Listings of networks that this pass has already recorded are samples. -/
theorem recordPass_done {done : List NetworkId} {l : List Sample} (h : ∀ m ∈ l, m.net ∈ done) :
    recordPass p done l s = samplePass p l s := by
  induction l generalizing s with
  | nil => rfl
  | cons m rest ih =>
    rw [List.forall_mem_cons] at h
    rw [recordPass, if_pos (by simpa using h.1), samplePass]
    exact ih h.2

theorem applyScan_known {networks : List Sample} (h : ∀ m ∈ networks, (s.table.find p m.net).isSome) :
    applyScan p networks s = losePass p networks (samplePass p networks s) := by
  have hknown : networks.filter (fun m => (s.table.find p m.net).isSome) = networks := List.filter_eq_self.mpr h
  have hnew : networks.filter (fun m => (s.table.find p m.net).isNone) = [] :=
    List.filter_eq_nil_iff.mpr fun m hm => by simp [Option.isSome_iff_ne_none.mp (h m hm)]
  rw [applyScan, hknown, hnew, recordPass]

theorem applyScan_new {again : List Sample} (hagain : ∀ x ∈ again, x.net = m.net)
    (hfind : s.table.find p m.net = none) :
    applyScan p (m :: again) s = losePass p (m :: again) (samplePass p again (recordNew p m s)) := by
  have hnone : ∀ x ∈ m :: again, s.table.find p x.net = none :=
    List.forall_mem_cons.mpr ⟨hfind, fun x hx => by rw [hagain x hx, hfind]⟩
  have hknown : (m :: again).filter (fun x => (s.table.find p x.net).isSome) = [] :=
    List.filter_eq_nil_iff.mpr fun x hx => by simp [hnone x hx]
  have hnew : (m :: again).filter (fun x => (s.table.find p x.net).isNone) = m :: again :=
    List.filter_eq_self.mpr fun x hx => by simp [hnone x hx]
  rw [applyScan, hknown, hnew, samplePass, recordPass, if_neg (by simp), recordPass_done fun x hx => by simp [hagain x hx]]

/-- What a SCAN_RESULT of known networks makes of an entry. -/
def Entry.scanned (p : Port) (prefs : List PreferenceRecord) (networks : List Sample) (e : Entry) : Entry :=
  if e.port = p then
    match networks.filter fun m => m.net == e.net with
    | [] => { e with state := .lost }
    | samples => samples.foldl (fun x m => x.sampled prefs m) e
  else e

theorem applyScan_known_entry {networks : List Sample} (h : ∀ m ∈ networks, (s.table.find p m.net).isSome)
    (hdistinct : s.table.distinct) (hstandby : s.campaign.standby = none) (i : TableSlot) :
    (applyScan p networks s).table.entry i = (s.table.entry i).map (Entry.scanned p s.cfg.preferences networks) := by
  have hsampled := (samplePass_alone (s := s) (p := p) networks).frame
  rw [applyScan_known h, losePass_entry networks (by rw [hsampled.2.2.1, hstandby]), samplePass_entry networks hdistinct,
    Option.map_map]
  congr 1
  funext e
  rw [Function.comp_apply, Entry.scanned]
  by_cases hport : e.port = p
  · simp only [hport, if_true, sampledAll_identity, true_and, List.mem_map, not_exists, not_and]
    cases hlisted : networks.filter fun m => m.net == e.net with
    | nil =>
      have hunlisted : ∀ m ∈ networks, m.net ≠ e.net := by simpa using hlisted
      simp only [Entry.sampledAll, List.foldl_nil]
      exact if_pos hunlisted
    | cons x rest =>
      obtain ⟨hx, hnet⟩ := List.mem_filter.mp (hlisted ▸ List.mem_cons_self : x ∈ networks.filter fun m => m.net == e.net)
      exact if_neg fun hnot => hnot x hx (by simpa using hnet)
  · simp [hport]

theorem applyScan_known_alone {networks : List Sample} (h : ∀ m ∈ networks, (s.table.find p m.net).isSome)
    (hstandby : s.campaign.standby = none) : s.TableAlone (applyScan p networks s) := by
  have hsampled := samplePass_alone (s := s) (p := p) networks
  rw [applyScan_known h]
  exact hsampled.trans (losePass_alone _ (by rw [hsampled.frame.2.2.1, hstandby]))

/-- The table with an entry of a network it did not hold is distinct. -/
theorem NetTable.distinct_of_new {tab tab' : NetTable} {e : Entry} {slot : TableSlot} (h : tab.distinct)
    (hfind : tab.find e.port e.net = none) (hentry : ∀ i, tab'.entry i = if i = slot then some e else tab.entry i) :
    tab'.distinct := by
  rw [NetTable.find_none] at hfind
  intro i j a b ha hb hport hnet
  rw [hentry] at ha hb
  split at ha
  next hi =>
    split at hb
    next hj => rw [hi, hj]
    next =>
      cases ha
      exact absurd ⟨hport.symm, hnet.symm⟩ (hfind j b hb)
  next =>
    split at hb
    next =>
      cases hb
      exact absurd ⟨hport, hnet⟩ (hfind i a ha)
    next => exact h i j a b ha hb hport hnet

theorem newEntry_identity (prefs : List PreferenceRecord) (p : Port) (m : Sample) :
    (newEntry prefs p m).port = p ∧ (newEntry prefs p m).net = m.net := sampled_identity _ _ _

/-- A SCAN_RESULT of one new network: its entry is created and sampled in its slot, every other entry of the port is
LOST. -/
theorem applyScan_new_entry {again : List Sample} {slot : TableSlot} (hagain : ∀ x ∈ again, x.net = m.net)
    (hfind : s.table.find p m.net = none) (hdistinct : s.table.distinct) (hstandby : s.campaign.standby = none)
    (hslot : s.table.SlotForNew s.cfg.tuning.floor slot) :
    s.TableAlone (applyScan p (m :: again) s)
      ∧ (applyScan p (m :: again) s).table.entry slot =
          some ((newEntry s.cfg.preferences p m).sampledAll s.cfg.preferences again)
      ∧ ∀ i, i ≠ slot → (applyScan p (m :: again) s).table.entry i = (s.table.entry i).map fun x =>
          if x.port = p then { x with state := .lost } else x := by
  obtain ⟨halone, hentry⟩ := recordNew_entry (m := m) (p := p) hslot
  have hnew := newEntry_identity s.cfg.preferences p m
  have hdistinct' : (recordNew p m s).table.distinct :=
    NetTable.distinct_of_new hdistinct (by rw [hnew.1, hnew.2, hfind]) hentry
  have hsampled := halone.trans (samplePass_alone (p := p) again)
  have hstandby' : (samplePass p again (recordNew p m s)).campaign.standby = none := by
    rw [hsampled.frame.2.2.1, hstandby]
  have hpasses (i : TableSlot) := (losePass_entry (p := p) (m :: again) hstandby' i).trans
    (congrArg _ (samplePass_entry again hdistinct' i))
  rw [applyScan_new hagain hfind]
  refine ⟨hsampled.trans (losePass_alone _ hstandby'), ?_, fun i hi => ?_⟩
  · have hall : again.filter (fun x => x.net == m.net) = again :=
      List.filter_eq_self.mpr fun x hx => by simp [hagain x hx]
    rw [hpasses, hentry, if_pos rfl, halone.frame.1]
    simp [hnew, hall]
  · rw [hpasses, hentry, if_neg hi]
    cases he : s.table.entry i with
    | none => rfl
    | some e =>
      by_cases hport : e.port = p
      · have hother : e.net ≠ m.net := fun hnet => NetTable.find_none.mp hfind i e he ⟨hport, hnet⟩
        have hnone : again.filter (fun x => x.net == e.net) = [] :=
          List.filter_eq_nil_iff.mpr fun x hx => by simpa [hagain x hx] using hother.symm
        have hunlisted : e.net ∉ again.map Sample.net := fun hin => by
          obtain ⟨x, hx, hnet⟩ := List.mem_map.mp hin
          exact hother (hnet.symm.trans (hagain x hx))
        simp only [Option.map_some, hport, if_true, hnone, Entry.sampledAll, List.foldl_nil, List.map_cons, List.mem_cons,
          hother, false_or, hunlisted, not_false_eq_true, and_self]
      · simp [hport]

/-- Without a slot for the one new network a SCAN_RESULT only reports TABLE_FULL. -/
theorem applyScan_full {again : List Sample} (hagain : ∀ x ∈ again, x.net = m.net)
    (hfind : s.table.find p m.net = none) (h : ∀ i, ∃ x, s.table.entry i = some x
      ∧ (x.holds ≠ Holds.empty ∨ (x.state = .seen ∧ s.cfg.tuning.floor ≤ x.score)) ∧ (x.port = p → x.state = .lost)) :
    applyScan p (m :: again) s = raise (.netTableFull p m.net) s := by
  have htable : (raise (.netTableFull p m.net) s).table = s.table := (raise_frame _ _).2.1
  have hpassed : samplePass p again (raise (.netTableFull p m.net) s) = raise (.netTableFull p m.net) s := by
    induction again with
    | nil => rfl
    | cons x rest ih =>
      rw [List.forall_mem_cons] at hagain
      rw [samplePass, sampleNetwork, htable, hagain.1, hfind]
      exact ih hagain.2
  rw [applyScan_new hagain hfind, recordNew_full fun i => (h i).imp fun x hx => ⟨hx.1, hx.2.1⟩, hpassed, losePass_idle]
  intro i e he hport
  obtain ⟨x, hx, -, hlost⟩ := h i
  rw [htable, hx] at he
  cases he
  exact hlost hport

/-! ## The SCAN's submitter (08 R157, 04 R102, R103) -/

/-- The Survey Timer as the SCAN's end leaves it, where no resurvey is told. -/
def ScanSettles (s : State) (p : Port) (who : Submitter) (survey : Survey) : Prop :=
  ((who = .start ∨ who = .host ∨ ∃ id, who = .campaign (.resurvey id) ∧ s.campaign.resurvey = none)
      ∧ survey = s.survey)
    ∨ ∃ tag, who = .survey tag
      ∧ ((tag = s.survey.periodEnds ∧ s.survey.records.get p = .submitted
          ∧ survey = { s.survey with records := s.survey.records.put p .completed })
        ∨ ((tag ≠ s.survey.periodEnds ∨ s.survey.records.get p ≠ .submitted) ∧ survey = s.survey))

theorem scanCompleted_settles {who : Submitter} {survey : Survey} {networks : List Sample}
    (h : ScanSettles s p who survey) (halone : s.TableAlone (applyScan p networks s)) :
    scanCompleted p ⟨.scan, who⟩ networks s = some { applyScan p networks s with survey := survey } := by
  obtain ⟨-, -, hcampaign, -, hsurvey, -⟩ := halone.frame
  unfold scanCompleted
  rcases h with ⟨hwho, rfl⟩ | ⟨tag, rfl, ⟨htag, hrecord, rfl⟩ | ⟨hother, rfl⟩⟩
  · rw [← hsurvey]
    rcases hwho with rfl | rfl | ⟨id, rfl, hnone⟩
    · rfl
    · rfl
    · exact if_neg (by simp [hcampaign, hnone])
  · rw [← hsurvey] at htag hrecord ⊢
    exact congrArg some (if_pos ⟨htag, hrecord⟩)
  · rw [← hsurvey] at hother ⊢
    exact congrArg some (if_neg fun hboth => hother.elim (· hboth.1) (· hboth.2))

theorem exec_scanResult {who : Submitter} {n : Nat} {groups : List NetworkGroup} (hpower : (s.port p).power = .on)
    (hflight : (s.port p).inFlight = some ⟨⟨.scan, who⟩, n⟩) (hlength : groups.length ≤ 8) :
    exec (.scanResult p groups) s = outcomeOf ((scanCompleted p ⟨.scan, who⟩ (groups.filterMap sampleOfGroup)
      (noticeTaken p s)).map (sendFollowing p)) := by
  have hexec : exec (.scanResult p groups) s = outcomeOf (moduleNotice p (readScan groups) s) := rfl
  rw [hexec, readScan, if_pos hlength,
    moduleNotice_completes (n := .scanResult _) (by simp [hpower, Power.listens]) hflight rfl]
  rfl

/-- A SCAN that no resurvey is told of: the table takes it, its submitter's survey follows, no order goes out. -/
theorem exec_scanResult_settles {who : Submitter} {survey : Survey} {n : Nat} {groups : List NetworkGroup}
    (hpower : (s.port p).power = .on) (hflight : (s.port p).inFlight = some ⟨⟨.scan, who⟩, n⟩)
    (hq : (s.port p).queue = []) (hlength : groups.length ≤ 8) (h : ScanSettles s p who survey)
    (halone : (noticeTaken p s).TableAlone (applyScan p (groups.filterMap sampleOfGroup) (noticeTaken p s))) :
    exec (.scanResult p groups) s = .next
      { applyScan p (groups.filterMap sampleOfGroup) (noticeTaken p s) with survey := survey } := by
  have hports := halone.frame.2.2.2.1
  have hsettled := scanCompleted_settles (survey := survey) (by simpa [ScanSettles] using h) halone
  have hrest : (({ applyScan p (groups.filterMap sampleOfGroup) (noticeTaken p s) with survey := survey } : State).port
      p).queue = [] := by
    simp only [State.port, hports]
    simp [noticeTaken_eq, hq]
  rw [exec_scanResult hpower hflight hlength, hsettled, Option.map_some, sendFollowing_of_rest (.inl hrest), outcomeOf_some]

theorem mem_portList (q : Port) : q ∈ portList := by
  cases q <;> simp [portList]

theorem awaitsAny_eq {r : Resurvey} (hr : s.campaign.resurvey = some r) :
    awaitsAny s = true ↔ ∃ q, r.awaited.get q = true := by
  simp [awaitsAny, isAwaited, hr, mem_portList]

/-- The ports still awaited, one of them having completed. -/
theorem awaitsAny_stopAwaiting {r : Resurvey} (hr : s.campaign.resurvey = some r) :
    awaitsAny (stopAwaiting p s) = true ↔ ∃ q, q ≠ p ∧ r.awaited.get q = true := by
  rw [awaitsAny_eq (r := { r with awaited := r.awaited.put p false }) (by simp [stopAwaiting, hr])]
  refine exists_congr fun q => ?_
  by_cases hq : q = p
  · simp [hq]
  · simp [hq, PerPort.get_put_of_ne]

/-- The campaign as the end of a resurvey's SCAN on a port leaves it: with a port still awaited, or with the last
one gone and the walk at the WAIT behind the RESURVEY step. -/
def ResurveyGoesOn (s : State) (p : Port) (r : Resurvey) (campaign : Campaign) : Prop :=
  ((∃ q, q ≠ p ∧ r.awaited.get q = true)
      ∧ campaign = { s.campaign with resurvey := some { r with awaited := r.awaited.put p false } })
    ∨ ((∀ q, q ≠ p → r.awaited.get q = false) ∧ r.use = .step
      ∧ ∃ slot time last, s.campaign.cursor = some slot
        ∧ s.cfg.steps.get slot = .resurvey true ∧ s.cfg.steps.get (slot + 1) = .wait time last
        ∧ campaign = { s.campaign with
            state := .pause
            resurvey := none
            resurveysDone := s.campaign.resurveysDone + 1
            cursor := some (slot + 1)
            controlCount := 0
            waitTimer := some time })

theorem resurveyScanned_goes_on {r : Resurvey} {campaign : Campaign} (hr : s.campaign.resurvey = some r)
    (hawaited : r.awaited.get p = true) (h : ResurveyGoesOn s p r campaign) :
    ∃ t, resurveyScanned r.id p s = some t ∧ t.outside = s.outside ∧ t.table = s.table ∧ t.log = s.log
      ∧ t.campaign = campaign ∧ t.ports = s.ports ∧ t.survey = s.survey ∧ t.supply = s.supply := by
  have hstop : stopAwaiting p s = s.onCampaign fun c =>
      { c with resurvey := some { r with awaited := r.awaited.put p false } } := by
    simp [stopAwaiting, State.onCampaign, hr]
  have htold : resurveyScanned r.id p s = if awaitsAny (stopAwaiting p s) then some (stopAwaiting p s)
      else runChain (stateKey s.campaign) .resurveyDone (stopAwaiting p s) := by
    rw [resurveyScanned, if_pos (by simp [hr]), leaveAwaited, if_pos (by simp [isAwaited, hr, hawaited])]
  rw [htold]
  rcases h with ⟨hmore, rfl⟩ | ⟨hlast, huse, slot, time, last, hcursor, hstep, hwait, rfl⟩
  · rw [if_pos ((awaitsAny_stopAwaiting hr).mpr hmore), hstop]
    exact ⟨_, rfl, rfl, rfl, rfl, rfl, rfl, rfl, rfl⟩
  · have hnone : ¬awaitsAny (stopAwaiting p s) = true := by
      rw [awaitsAny_stopAwaiting hr]
      rintro ⟨q, hq, hawaits⟩
      rw [hlast q hq] at hawaits
      exact Bool.noConfusion hawaits
    have hdone : goStep .resurveyDone (stopAwaiting p s) = (.walk (slot + 1), s.onCampaign fun c =>
        { c with resurvey := none, resurveysDone := c.resurveysDone + 1 }) := by
      rw [hstop]
      simp [goStep, completeResurvey, huse, goAfterCursor, hcursor, hstep, stepMore, goSuccessor, State.onCampaign]
    have hrun : runGo 3 .resurveyDone (stopAwaiting p s) = _ :=
      runGo_link hdone (by simp) (runGo_walk_wait (s := s.onCampaign _) hwait)
    rw [if_neg hnone, runChain_of_runGo 3 (by decide) _ _ _ _ hrun]
    obtain ⟨hout, htable, hlog, hcampaign, hports, hsurvey, hsupply, -⟩ := reportChange_frame (stateKey s.campaign) _
    exact ⟨_, rfl, hout, htable, hlog, hcampaign, hports, hsurvey, hsupply⟩

theorem exec_scanResult_resurvey {r : Resurvey} {campaign : Campaign} {n : Nat} {groups : List NetworkGroup}
    (hpower : (s.port p).power = .on) (hflight : (s.port p).inFlight = some ⟨⟨.scan, .campaign (.resurvey r.id)⟩, n⟩)
    (hq : (s.port p).queue = []) (hlength : groups.length ≤ 8) (hr : s.campaign.resurvey = some r)
    (hawaited : r.awaited.get p = true) (h : ResurveyGoesOn s p r campaign)
    (halone : (noticeTaken p s).TableAlone (applyScan p (groups.filterMap sampleOfGroup) (noticeTaken p s))) :
    ∃ t, exec (.scanResult p groups) s = .next t
      ∧ t.ports = s.ports.put p { s.port p with inFlight := none, rx := .hunting }
      ∧ t.campaign = campaign ∧ t.log = s.log ∧ t.survey = s.survey ∧ t.supply = s.supply ∧ t.outside = s.outside
      ∧ t.table = (applyScan p (groups.filterMap sampleOfGroup) (noticeTaken p s)).table := by
  obtain ⟨hcfg, hlog, hcampaign, hports, hsurvey, hsupply⟩ := halone.frame
  obtain ⟨t, htold, hout, htable, htlog, htcampaign, htports, htsurvey, htsupply⟩ :=
    resurveyScanned_goes_on (s := applyScan p (groups.filterMap sampleOfGroup) (noticeTaken p s)) (p := p)
      (campaign := campaign) (by rw [hcampaign]; exact hr) hawaited (by
        unfold ResurveyGoesOn
        rw [hcampaign, hcfg]
        exact h)
  have hports' : t.ports = s.ports.put p { s.port p with inFlight := none, rx := .hunting } := htports.trans hports
  refine ⟨t, ?_, hports', htcampaign, htlog.trans hlog, htsurvey.trans hsurvey, htsupply.trans hsupply,
    hout.trans halone.1, htable⟩
  have hcompleted : scanCompleted p ⟨.scan, .campaign (.resurvey r.id)⟩ (groups.filterMap sampleOfGroup)
      (noticeTaken p s) = some t := htold
  rw [exec_scanResult hpower hflight hlength, hcompleted, Option.map_some,
    sendFollowing_of_rest (.inl (by simpa [State.port, hports'] using hq)), outcomeOf_some]

/-! ## SCAN_RESULT -/

/-- Settles O41. -/
theorem scanApplied : Obligations.ScanApplied := by
  unfold Obligations.ScanApplied
  rintro s p n who groups networks after hpower hflight hq hstandby hlength rfl hdistinct hafter
  have hscanned : ∀ slot, after slot =
      (s.table.entry slot).map (Entry.scanned p s.cfg.preferences (groups.filterMap sampleOfGroup)) := hafter
  have hstandby' : (noticeTaken p s).campaign.standby = none := hstandby
  refine ⟨fun survey hwho => ⟨fun hknown => ?_, fun m again hnetworks hagain hfind => ⟨fun slot hslot => ?_,
    fun hfull => ?_⟩⟩, fun r campaign hr hresurvey hawaited _ hknown hgoes => ?_⟩
  · have halone := applyScan_known_alone (s := noticeTaken p s) (p := p) hknown hstandby'
    obtain ⟨hcfg, hlog, hcampaign, hports, -, hsupply⟩ := halone.frame
    exact ⟨_, exec_scanResult_settles hpower hflight hq hlength hwho halone, hports, hcampaign, hlog, rfl, hsupply,
      halone.1, fun slot => (applyScan_known_entry (s := noticeTaken p s) hknown hdistinct hstandby' slot).trans
        (hscanned slot).symm⟩
  · obtain ⟨halone, hthere, helse⟩ := applyScan_new_entry (s := noticeTaken p s) (p := p) (slot := slot) hagain hfind
      hdistinct hstandby' hslot
    obtain ⟨hcfg, hlog, hcampaign, hports, -, hsupply⟩ := halone.frame
    rw [← hnetworks] at halone hthere helse hcampaign hports
    exact ⟨_, newEntry s.cfg.preferences p m, exec_scanResult_settles hpower hflight hq hlength hwho halone, hports,
      hcampaign, rfl, halone.1, by simp [newEntry, Entry.sampled], (newEntry_identity _ _ _).1,
      (newEntry_identity _ _ _).2, by simp [newEntry, Entry.sampled, averaged], by
        cases hquality : m.quality <;> simp [newEntry, Entry.sampled, averaged, averagedQuality, hquality],
      by simp [newEntry, Entry.sampled, countUp], by simp [newEntry, Entry.sampled], by simp [newEntry, Entry.sampled],
      by simp [newEntry, Entry.sampled], by simp [newEntry, Entry.sampled], rfl, rfl, hthere, helse⟩
  · have hreported := applyScan_full (s := noticeTaken p s) (p := p) hagain hfind hfull
    rw [← hnetworks] at hreported
    rw [exec_scanResult_settles hpower hflight hq hlength hwho
      (by rw [hreported]; exact (State.TableAlone.refl _).raise _), hreported]
    simp only [raise_eq]
    rfl
  · subst hresurvey
    have halone := applyScan_known_alone (s := noticeTaken p s) (p := p) hknown hstandby'
    obtain ⟨t, hexec, hports, hcampaign, hlog, hsurvey, hsupply, hout, htable⟩ :=
      exec_scanResult_resurvey hpower hflight hq hlength hr hawaited hgoes halone
    exact ⟨t, hexec, hports, hcampaign, hlog, hsurvey, hsupply, hout, fun slot => by
      rw [htable, hscanned]
      exact applyScan_known_entry (s := noticeTaken p s) hknown hdistinct hstandby' slot⟩

end Sys2Proof.Machine
end
